-- ==== Sys2Proof/Word.lean ====
section
/-! DEFINITION. The widths of the values that the ports of the arbiter carry as bits.

Sizes, addresses and cursors are unsigned naturals (spec/00_scope.md R6: "All multi-bit values are unsigned naturals"), because
their widths `ADDR_W` and `SIZE_W` are parameters of an instance (R4); only the fields whose bits the spec numbers are bit vectors. -/

namespace Sys2Proof

/-- Format C, the command word `cmd[7:0]` (spec/30_encoding.md R61). -/
abbrev CmdWord := BitVec 8

/-- `rsp_code[1:0]` (spec/30_encoding.md R66). -/
abbrev ResultCode := BitVec 2

/-- `rsp_status[2:0]` (spec/30_encoding.md R68). -/
abbrev StatusBits := BitVec 3

/-- `evt_mask[3:0]` (spec/30_encoding.md R69). -/
abbrev EventMask := BitVec 4

/-- `ev[1:0]`, the two condition bits of format E (spec/30_encoding.md R70). -/
abbrev EventBits := BitVec 2

end Sys2Proof
end

