-- ==== Sys2Proof/Config.lean ====
section
/-! DEFINITION. The parameters of one arbiter instance (spec/00_scope.md R4) and the one free value the spec leaves open.

The parameters are static data of an instance, written by no command (R4) and no part of the handle (spec/10_state.md R34).
State carries them in a field of its own, so that every statement about a state holds for every instance (log 1: DESIGN CHOICE, safe). -/

namespace Sys2Proof

/-- `DIR`, the transfer direction of the channel (R4): `In` is peripheral-to-memory, `Out` is memory-to-peripheral. -/
inductive Dir where
  | input
  | output
deriving DecidableEq, Repr

/-- `PROD_ADVANCE`, how the handler advances the producer cursor (R4, spec/60_exceptions.md R149). -/
inductive ProdAdvance where
  | selfIncrement
  | adoptIndex
deriving DecidableEq, Repr

/-- `KIND`, which timer-interval formula Start uses (R4). -/
inductive Kind where
  | audio
  | frame
deriving DecidableEq, Repr

/-- The kind-dependent half of `CFG` (R4: "sample rate/bit depth/channel count, or frame width/height/rate/color format"). -/
inductive Geometry where
  | audio (sampleRate sampleBits channels : Nat)
  | frame (width height rate color : Nat)
deriving DecidableEq, Repr

/-- `CFG`, the channel's configuration block (R4). Only `intervalUs` reads it; INIT writes it as one opaque group
(spec/20_memory.md R47). The record's fields are the inputs the spec names, in widths it does not give (log 13: DESIGN CHOICE, safe). -/
structure ChannelCfg where
  geometry : Geometry
  source   : Option String
  device   : Nat
deriving DecidableEq, Repr

/-- The static parameters of one instance (R4). -/
structure Params where
  dir         : Dir
  cfg         : ChannelCfg
  addrW       : Nat
  sizeW       : Nat
  prodAdvance : ProdAdvance
  envLateMax  : Nat
deriving DecidableEq, Repr

/-- `KIND` of an instance: which half of the configuration block it has (R4). -/
def Params.kind (p : Params) : Kind :=
  match p.cfg.geometry with
  | .audio _ _ _ => .audio
  | .frame _ _ _ _ => .frame

/-- The instance that `State.reset` is the reset state of: the spec's defaults (R4: widths 32, `SelfIncrement`, one late
event) and, for what R4 leaves to the platform, the convention of spec/95_test_vectors.md section 0 (`DIR = In`) and the first
configuration of its vector V-I1. DESIGN CHOICE (log 2: unsafe); `State.resetOf p` is the reset state of any other instance. -/
def Config.default : Params where
  dir         := .input
  cfg         := { geometry := .audio 16000 16 2, source := none, device := 0 }
  addrW       := 32
  sizeW       := 32
  prodAdvance := .selfIncrement
  envLateMax  := 1

/-- FREE VALUE. What START writes to `Timer.Interval` where the interval is undefined: a zero rate, or a configuration for which
`frames` is undefined (spec/93_implementation_defined.md U6, "any value"). It has no body: nothing is known of it. Its arguments
are the configuration, the block size and the length of the downward trace at the draw, so no two draws of a run are
forced to agree (log 12: safe). -/
opaque Config.undefinedInterval : ChannelCfg → Nat → Nat → Nat

end Sys2Proof
end

