-- ==== Sys2Proof/Syntax.lean ====
section
/-! DEFINITION. The instructions: the eight commands of spec/opcode_table.json, and the form in which the command port carries
one (format C with its side operands, spec/30_encoding.md R60 to R62). -/

namespace Sys2Proof

/-- One constructor for each row of spec/opcode_table.json (spec/30_encoding.md R63). The event `EVT` is not a command word and
has no row: it is `Machine.handleEvent`. -/
inductive Instr where
  /-- `INIT`: `m` is 1 when a callback is supplied (R64). -/
  | init (m : Bool)
  | uninit
  /-- `SETBUF base, total, block`: the three side operands (R62); `base = 0` is an absent buffer. -/
  | setbuf (base total block : Nat)
  /-- `START`: `m` is 1 for Single and 0 for Continuous (R64). -/
  | start (m : Bool)
  | stop
  | getblock
  | release
  | getstatus
deriving DecidableEq, Repr

/-- What the command port presents in one step (R60): the command word and the three operand signals beside it. -/
structure CommandPort where
  cmd      : CmdWord
  argBase  : Nat
  argTotal : Nat
  argBlock : Nat
deriving DecidableEq, Repr

/-- What the interrupt port delivers with one completion, format E (R70). -/
structure EventWord where
  ev       : EventBits
  blkIndex : Nat
deriving DecidableEq, Repr

end Sys2Proof
end

