-- ==== Sys2Proof/WellFormed.lean ====
section
/-! DEFINITION. Well-formed instances, instructions and port values: a value fits the wires that carry it
(spec/00_scope.md R4, spec/30_encoding.md R60). -/

namespace Sys2Proof

/-- The widths are positive integers (R4). -/
def Params.wf (p : Params) : Bool :=
  decide (0 < p.addrW) && decide (0 < p.sizeW)

/-- The operands of an instruction fit the operand signals of the instance (R60: `arg_base[ADDR_W-1:0]`,
`arg_total[SIZE_W-1:0]`, `arg_block[SIZE_W-1:0]`). Only SETBUF has operands (R62). -/
def Instr.wf (p : Params) : Instr → Bool
  | .init _ => true
  | .uninit => true
  | .setbuf base total block =>
      decide (base < 2 ^ p.addrW) && decide (total < 2 ^ p.sizeW) && decide (block < 2 ^ p.sizeW)
  | .start _ => true
  | .stop => true
  | .getblock => true
  | .release => true
  | .getstatus => true

/-- The operand signals of a command port value fit their wires (R60). -/
def CommandPort.wf (p : Params) (c : CommandPort) : Bool :=
  decide (c.argBase < 2 ^ p.addrW) && decide (c.argTotal < 2 ^ p.sizeW) && decide (c.argBlock < 2 ^ p.sizeW)

/-- The block index of an event word fits its wires (R60: `ev_blk_index[SIZE_W-1:0]`). -/
def EventWord.wf (p : Params) (e : EventWord) : Bool :=
  decide (e.blkIndex < 2 ^ p.sizeW)

end Sys2Proof
end

