-- ==== Sys2Proof/Decode.lean ====
section
/-! DEFINITION. The decoder of the command port, total on all 256 words and every operand (spec/30_encoding.md R61 to R64, R71,
R75), and after it the encoder, written from the same tables. -/

namespace Sys2Proof

/-- Why a command word is illegal, in the order R71 lists the causes. -/
inductive IllegalWord where
  /-- `cmd[7:5] != 000`. -/
  | reservedBits
  /-- `op` is 8 to 15. -/
  | reservedOp
  /-- `m = 1` with `op` not 0 and not 3. -/
  | modifierSet
deriving DecidableEq, Repr

/-- Bits 7:5 of format C (R61). -/
def cmdRsv (w : CmdWord) : BitVec 3 := w.extractLsb' 5 3

/-- Bit 4 of format C, the modifier (R61, R64). -/
def cmdM (w : CmdWord) : Bool := w.getLsbD 4

/-- Bits 3:0 of format C, the operation code (R61). -/
def cmdOp (w : CmdWord) : BitVec 4 := w.extractLsb' 0 4

/-- An operation whose modifier must be 0 (R63, R64). -/
def decodePlain (m : Bool) (i : Instr) : Except IllegalWord Instr :=
  if m then .error .modifierSet else .ok i

/-- The instruction that the fields of format C and the operand signals spell, or why they spell none (R63, R71). Only SETBUF takes
its operands from the side signals; for every other command they are ignored (R62). -/
def decodeFields (rsv : BitVec 3) (m : Bool) (op : Nat) (base total block : Nat) : Except IllegalWord Instr :=
  if rsv = 0 then
    match op with
    | 0 => .ok (.init m)
    | 1 => decodePlain m .uninit
    | 2 => decodePlain m (.setbuf base total block)
    | 3 => .ok (.start m)
    | 4 => decodePlain m .stop
    | 5 => decodePlain m .getblock
    | 6 => decodePlain m .release
    | 7 => decodePlain m .getstatus
    | _ => .error .reservedOp
  else .error .reservedBits

/-- The decoder: the instruction that a command port value spells, or why it spells none. -/
def decode (c : CommandPort) : Except IllegalWord Instr :=
  decodeFields (cmdRsv c.cmd) (cmdM c.cmd) (cmdOp c.cmd).toNat c.argBase c.argTotal c.argBlock

/-- One row of the table of R63: the word `w` selects it when `w and mask = match`. -/
structure OpcodeRow where
  mnemonic : String
  pattern  : CmdWord
  mask     : CmdWord
deriving DecidableEq, Repr

/-- The match and mask columns of the table of R63. The decoder above reads the fields of R61; that the two agree is stated as
an obligation. -/
def opcodeTable : List OpcodeRow :=
  [ ⟨"INIT", 0x00, 0xEF⟩, ⟨"UNINIT", 0x01, 0xFF⟩, ⟨"SETBUF", 0x02, 0xFF⟩, ⟨"START", 0x03, 0xEF⟩,
    ⟨"STOP", 0x04, 0xFF⟩, ⟨"GETBLOCK", 0x05, 0xFF⟩, ⟨"RELEASE", 0x06, 0xFF⟩, ⟨"GETSTATUS", 0x07, 0xFF⟩ ]

/-- The word `w` selects the row `r` (R63). -/
def OpcodeRow.selects (r : OpcodeRow) (w : CmdWord) : Bool := w &&& r.mask == r.pattern

/-- The mnemonic of an instruction in the table of R63. -/
def Instr.mnemonic : Instr → String
  | .init _ => "INIT"
  | .uninit => "UNINIT"
  | .setbuf _ _ _ => "SETBUF"
  | .start _ => "START"
  | .stop => "STOP"
  | .getblock => "GETBLOCK"
  | .release => "RELEASE"
  | .getstatus => "GETSTATUS"

/-- Format C from its fields, with `rsv = 000` (R61). -/
def cmdWord (m : Bool) (op : BitVec 4) : CmdWord := 0#3 ++ BitVec.ofBool m ++ op

/-- The operation code of an instruction (R63). -/
def Instr.op : Instr → BitVec 4
  | .init _ => 0
  | .uninit => 1
  | .setbuf _ _ _ => 2
  | .start _ => 3
  | .stop => 4
  | .getblock => 5
  | .release => 6
  | .getstatus => 7

/-- The modifier bit of an instruction (R64). -/
def Instr.modifier : Instr → Bool
  | .init m => m
  | .uninit => false
  | .setbuf _ _ _ => false
  | .start m => m
  | .stop => false
  | .getblock => false
  | .release => false
  | .getstatus => false

/-- The command port value of an instruction; the operand signals that it ignores are driven to 0 (R62, R63). -/
def encode (i : Instr) : CommandPort :=
  match i with
  | .setbuf base total block => ⟨cmdWord i.modifier i.op, base, total, block⟩
  | .init _ | .uninit | .start _ | .stop | .getblock | .release | .getstatus => ⟨cmdWord i.modifier i.op, 0, 0, 0⟩

/-- The instruction the decoder reads from a row of the table: a command word of 8 bits, its operand signals 0 (the table gives
them no bits). -/
def decodeTableWord (nbits w : Nat) : Option Instr :=
  if nbits = 8 ∧ w < 2 ^ 8 then
    match decode ⟨BitVec.ofNat 8 w, 0, 0, 0⟩ with
    | .ok i => some i
    | .error _ => none
  else none

end Sys2Proof
end

