-- ==== Sys2Proof/Machine/Ports.lean ====
section
/-! DEFINITION. What passes the other ports of an instance (spec/30_encoding.md R60): the peripheral's registers by name and
the downward trace (spec/20_memory.md R45, R46), the response port, and the inputs of the machine. -/

namespace Sys2Proof.Machine

/-- The registers of the peripheral, by name (R46; the spec gives no layout, R54). `config` stands for the one opaque group of
static configuration writes (R47). `irqSet` and `timerCount` are named by R46 and used by no rule. -/
inductive Reg where
  | irqEnable | irqSet | irqClear | irqStatus
  | timerControl | timerInterval | timerCount
  | dmaControl | dmaAddress | dmaBlockSize | dmaBlockNum | dmaBlockIndex
  | control | status | device | filename
  | channels | sampleRate | sampleBits
  | frameWidth | frameHeight | frameRate | frameColor
  | config
deriving DecidableEq, Repr

/-- The symbolic values the spec writes in capitals, opaque distinct constants (R45). -/
inductive Sym where
  | enable | run | periodic | oneshot | dirP2M | dirM2P | mode | ack
deriving DecidableEq, Repr

/-- A value written to a register of the peripheral: a number, a symbol, two symbols combined with `or`, or the configuration
record (R45, R47). -/
inductive RegVal where
  | num (n : Nat)
  | sym (a : Sym)
  | symOr (a b : Sym)
  | cfg (c : ChannelCfg)
deriving DecidableEq, Repr

/-- One element of the downward trace (R45, R50). -/
inductive Mark where
  | write (r : Reg) (v : RegVal)
  | barrier
deriving DecidableEq, Repr

/-- The result of a command (spec/30_encoding.md R66). -/
inductive Result where
  | ok
  | invalidParameter
  | invalidState
  | deviceError
deriving DecidableEq, Repr

/-- The signals of the response port in a step that answers a command (R60, R65). -/
structure Response where
  illegal  : Bool
  code     : ResultCode
  blkValid : Bool
  addr     : Nat
  status   : StatusBits
deriving DecidableEq, Repr

/-- What the outside presents next. The schedule of inputs is the total order of spec/20_memory.md R55, chosen by the
environment (log 4: DESIGN CHOICE, safe). -/
inductive Input where
  /-- The reset input `rst` (spec/70_reset_and_hazards.md R170). -/
  | rst
  /-- One command on the command port, with the peripheral's answer to a `STATUS` read made in that step
  (spec/20_memory.md R49 item 1). Only START reads the answer. -/
  | command (c : CommandPort) (periphActive : Bool)
  /-- The peripheral completes a block transfer: its completion status is set and stays pending (spec/10_state.md R32 item 1). -/
  | completion (e : EventWord)
  /-- The scheduler lets the interrupt in: if it is enabled and a completion is pending, this is the spec's step `EVT`
  (spec/60_exceptions.md R147). -/
  | deliver
deriving DecidableEq, Repr

/-- The environment budget `B` (spec/60_exceptions.md R159): a natural number or unbounded. -/
inductive Budget where
  | num (n : Nat)
  | unbounded
deriving DecidableEq, Repr

end Sys2Proof.Machine
end

