-- ==== Sys2Proof/Machine/State.lean ====
section
/-! DEFINITION. The state of the machine, as plain data: the handle `H` (spec/10_state.md R10), and beside it what R34 keeps out
of the handle: the instance's static parameters, the environment state of R32, and the ports' outputs. -/

namespace Sys2Proof.Machine

/-- The handle `H`: the sixteen fields of R10, under the spec's names. -/
structure Handle where
  /-- `H.initialized` (R15) -/
  initialized : Bool
  /-- `H.cb_en` (R16) -/
  cbEn        : Bool
  /-- `H.buf_set` (R17) -/
  bufSet      : Bool
  /-- `H.base` (R11) -/
  base        : Nat
  /-- `H.block_size` (R12) -/
  blockSize   : Nat
  /-- `H.block_count` (R13) -/
  blockCount  : Nat
  /-- `H.idx_get` (R14) -/
  idxGet      : Nat
  /-- `H.idx_rel` (R14) -/
  idxRel      : Nat
  /-- `H.idx_prod` (R14) -/
  idxProd     : Nat
  /-- `H.active` (R18) -/
  active      : Bool
  /-- `H.single_mode` (R19) -/
  singleMode  : Bool
  /-- `H.limit_owned` (R20) -/
  limitOwned  : Bool
  /-- `H.buffer_empty` (R21) -/
  bufferEmpty : Bool
  /-- `H.buffer_full` (R22) -/
  bufferFull  : Bool
  /-- `H.ovf_udf` (R23) -/
  ovfUdf      : Bool
  /-- `H.eos` (R24) -/
  eos         : Bool
deriving DecidableEq, Repr

/-- `H <- zero`: zero in all sixteen fields (R10, spec/00_scope.md R7). -/
def Handle.zero : Handle where
  initialized := false
  cbEn        := false
  bufSet      := false
  base        := 0
  blockSize   := 0
  blockCount  := 0
  idxGet      := 0
  idxRel      := 0
  idxProd     := 0
  active      := false
  singleMode  := false
  limitOwned  := false
  bufferEmpty := false
  bufferFull  := false
  ovfUdf      := false
  eos         := false

/-- One instance and its surroundings. -/
structure State where
  /-- The static parameters (spec/00_scope.md R4); no step writes them. -/
  params       : Params
  /-- The handle, the whole state of the arbiter itself (R10). -/
  h            : Handle
  /-- Completions raised and not yet handled, oldest first (R32 item 1). -/
  pending      : List EventWord
  /-- The environment budget `B` (R32 item 2, spec/60_exceptions.md R159). -/
  budget       : Budget
  /-- The downward trace, oldest mark first (spec/20_memory.md R45). -/
  trace        : List Mark
  /-- The register port's answer to a `STATUS` read in the present step (spec/20_memory.md R49). -/
  periphActive : Bool
  /-- The response port in the last step; none when that step answered no command (log 9: DESIGN CHOICE, unsafe at reset). -/
  rsp          : Option Response
  /-- The event port in the last step: the mask of its callback, if it made one (log 9: DESIGN CHOICE, unsafe at reset). -/
  evt          : Option EventMask
  /-- What the ports will present, next first (log 4: DESIGN CHOICE, safe). -/
  inputs       : List Input
deriving DecidableEq, Repr

/-- Why the machine stops (spec/93_implementation_defined.md U3, U4, U18: no step is defined from the faulted state). -/
inductive Fault where
  /-- A data-ready event while no buffer is attached (spec/60_exceptions.md R157). Raised by `handleEvent` only. Safe: the
  model stops where the hardware goes on in a way the spec does not give. -/
  | evtNoBuffer
  /-- Under `AdoptIndex`, a block index that is not below `block_count` (spec/60_exceptions.md R149). Raised by `handleEvent`
  only. Safe, for the same reason. -/
  | evtBadIndex
deriving DecidableEq, Repr

/-- Why an instruction has no meaning. -/
inductive Refusal where
  /-- An instruction that is not modelled. Every instruction is modelled, so nothing raises it. Safe. -/
  | notModelled (mnemonic : String)
deriving DecidableEq, Repr

/-- The reset state of the instance with parameters `p` (spec/10_state.md R33, spec/70_reset_and_hazards.md R170): the handle
zero, nothing pending, `B = 0`. Nothing has been emitted and no port has presented anything (log 4: DESIGN CHOICE, safe;
log 9: DESIGN CHOICE, unsafe at reset); `periphActive` is overwritten by every command before START can read it (log 8: DESIGN CHOICE, unsafe). -/
def State.resetOf (p : Params) : State where
  params       := p
  h            := Handle.zero
  pending      := []
  budget       := .num 0
  trace        := []
  periphActive := true
  rsp          := none
  evt          := none
  inputs       := []

/-- The machine right after reset, for the default instance (log 2: unsafe). -/
def State.reset : State := State.resetOf Config.default

end Sys2Proof.Machine
end

