-- ==== Sys2Proof/Machine/Operands.lean ====
section
/-! DEFINITION. Reading the ports in and driving them out: operand widths, the event word's bits, result codes and responses
(spec/30_encoding.md), the block address function (spec/20_memory.md R42) and the interval (spec/60_exceptions.md R160). -/

namespace Sys2Proof.Machine

/-- The command port as the instance's wires carry it: `ADDR_W` bits of base, `SIZE_W` bits of each size (R60, log 3: DEDUCED, safe). -/
def sampleCommand (p : Params) (c : CommandPort) : CommandPort :=
  ⟨c.cmd, c.argBase % 2 ^ p.addrW, c.argTotal % 2 ^ p.sizeW, c.argBlock % 2 ^ p.sizeW⟩

/-- The interrupt port as the instance's wires carry it: `SIZE_W` bits of block index (R60, log 3: DEDUCED, safe). -/
def sampleEvent (p : Params) (e : EventWord) : EventWord :=
  ⟨e.ev, e.blkIndex % 2 ^ p.sizeW⟩

/-- `ev.data_ready`, bit 0 of format E (R70). -/
def dataReady (e : EventWord) : Bool := e.ev.getLsbD 0

/-- `ev.eos`, bit 1 of format E (R70). -/
def endOfStream (e : EventWord) : Bool := e.ev.getLsbD 1

/-- The result codes of R66. -/
def resultCode : Result → ResultCode
  | .ok => 0
  | .invalidParameter => 1
  | .invalidState => 2
  | .deviceError => 3

/-- The response of a command that ends with result `r` (R65): every other signal 0. -/
def resultResponse (r : Result) : Response := ⟨false, resultCode r, false, 0, 0⟩

/-- GETBLOCK's present block (R67). -/
def blockResponse (a : Nat) : Response := ⟨false, resultCode .ok, true, a, 0⟩

/-- GETBLOCK's "absent" (R67). -/
def absentResponse : Response := ⟨false, resultCode .ok, false, 0, 0⟩

/-- The status bits of R68: bit 0 active, bit 1 overflow or underflow, bit 2 end of stream. -/
def statusBits (active ovfUdf eos : Bool) : StatusBits :=
  BitVec.ofBool eos ++ BitVec.ofBool ovfUdf ++ BitVec.ofBool active

/-- GETSTATUS's answer (R65, R68). -/
def statusResponse (b : StatusBits) : Response := ⟨false, resultCode .ok, false, 0, b⟩

/-- The answer to an illegal command word (R71). -/
def illegalResponse : Response := ⟨true, 0, false, 0, 0⟩

/-- The block address function (spec/20_memory.md R42). -/
def blkAddr (p : Params) (h : Handle) (k : Nat) : Nat := (h.base + k * h.blockSize) % 2 ^ p.addrW

/-- `frames`: one frame of interleaved PCM audio is one sample of every channel (spec/60_exceptions.md R160, from general
knowledge there; log 12: PRESUMED, unsafe for this number only). -/
def frames (sampleBits channels blockSize : Nat) : Nat := blockSize / (channels * (sampleBits / 8))

/-- `interval_us(KIND, CFG, block_size)` in microseconds (R160): exact naturals, quotient rounded toward zero. Where a divisor is
0 the spec gives no value, and a free value stands in its place (log 12: safe); `draw` tells one draw from another. -/
def intervalUs (cfg : ChannelCfg) (blockSize draw : Nat) : Nat :=
  match cfg.geometry with
  | .audio rate bits channels =>
      if rate = 0 ∨ channels * (bits / 8) = 0 then Config.undefinedInterval cfg blockSize draw
      else 1000000 * frames bits channels blockSize / rate
  | .frame _ _ rate _ =>
      if rate = 0 then Config.undefinedInterval cfg blockSize draw
      else 1000000 / rate

end Sys2Proof.Machine
end

