-- ==== Sys2Proof/Machine/Flags.lean ====
section
/-! DEFINITION. The combinational functions of spec/40_comparators_and_flags.md: cursor arithmetic, the index comparator in its
gray-coded form, the flag detectors and the event-mask function. None holds state. -/

namespace Sys2Proof.Machine

/-- `inc_mod(i, n)`, the cursor advance (R80). Its domain is `i < n`. -/
def incMod (i n : Nat) : Nat := if i + 1 = n then 0 else i + 1

/-- The reflected binary code of an index (R82). -/
def gray (i : Nat) : Nat := i ^^^ (i >>> 1)

/-- Bit by bit from the top, `i[k] = g[k] xor i[k+1]` (R82): the index whose code, on the `k` lowest bits, is that of `g`, given the
index bit `above` just over them. -/
def ungrayBelow (g : Nat) : Nat → Bool → Nat
  | 0, _ => 0
  | k + 1, above =>
      let b := g.testBit k ^^ above
      (if b then 2 ^ k else 0) + ungrayBelow g k b

/-- `ungray(g)` on `SIZE_W`-bit values (R82). -/
def ungray (sizeW g : Nat) : Nat := ungrayBelow g sizeW false

/-- `idx_eq(a, b)` (R81): the comparator, on the gray-coded form of its inputs as R82 defines it (log 16: DESIGN CHOICE, safe). -/
def idxEq (a b : Nat) : Bool := gray a == gray b

/-- `catch(p, r)`: the advanced producer cursor has caught the release cursor (R84). -/
def catchUp (p r : Nat) : Bool := idxEq p r

/-- The overflow/underflow detector (R85). `H.active` is no input. -/
def ovfUdfFire (ready : Bool) (p r : Nat) (singleMode : Bool) : Bool := ready && catchUp p r && !singleMode

/-- The caught-up detector of GETBLOCK on the advanced acquire cursor (R86); used with `DIR = In` only. -/
def drained (g p : Nat) : Bool := idxEq g p

/-- The limit detector of GETBLOCK on the advanced acquire cursor (R87). -/
def parity (g r : Nat) : Bool := idxEq g r

/-- The nothing-to-release detector of RELEASE, before any advance (R88). -/
def nothingHeld (h : Handle) : Bool := idxEq h.idxRel h.idxGet && !h.limitOwned

/-- The pointless-transfer detector of START (R89): full for input, empty for output. -/
def pointless (d : Dir) (h : Handle) : Bool :=
  match d with
  | .input => h.bufferFull
  | .output => h.bufferEmpty

/-- The event-mask function (R91, bit positions of spec/30_encoding.md R69): `Data`, `Overflow`, `Underflow`, `Eos`. -/
def eventMask (d : Dir) (e : EventWord) (fire : Bool) : EventMask :=
  BitVec.ofBool (endOfStream e) ++ BitVec.ofBool (fire && d == .output) ++ BitVec.ofBool (fire && d == .input)
    ++ BitVec.ofBool (dataReady e)

end Sys2Proof.Machine
end

