-- ==== Sys2Proof/Machine/Ops.lean ====
section
/-! DEFINITION. The shared operations: writing the handle, the trace and the ports (spec/00_scope.md R7, R8), the environment
budget (spec/60_exceptions.md R159), the reset input, and taking the completion interrupt, which is this hardware's one trap
(R146 to R157). The arbiter accesses no memory (spec/20_memory.md R43), so there is no memory operation. -/

namespace Sys2Proof.Machine

/-- The answer of a step. -/
abbrev Answer := Host.Outcome State Fault Refusal

/-- Writes the handle. -/
def State.setHandle (s : State) (h : Handle) : State := { s with h := h }

/-- Appends to the downward trace, in order (spec/20_memory.md R45). -/
def State.emit (s : State) (ms : List Mark) : State := { s with trace := s.trace ++ ms }

/-- Drives the response port. -/
def State.answer (s : State) (r : Response) : State := { s with rsp := some r }

/-- `result <- r` (spec/00_scope.md R8). -/
def State.finish (s : State) (r : Result) : State := s.answer (resultResponse r)

/-- Sets the environment budget. -/
def State.setBudget (s : State) (b : Budget) : State := { s with budget := b }

/-- `B = min(B, k)` (R159). -/
def Budget.cap : Budget → Nat → Budget
  | .num n, k => .num (min n k)
  | .unbounded, k => .num k

/-- One event is spent: when `B` is a number, 1 is subtracted (R159). At 0, which only an environment outside `ENV-QUIET`
reaches, it stays 0 (log 11: DEDUCED, safe). -/
def Budget.spend : Budget → Budget
  | .num n => .num (n - 1)
  | .unbounded => .unbounded

/-- The step that stops the peripheral caps the budget at `ENV_LATE_MAX` (R159). -/
def State.capBudget (s : State) : State := s.setBudget (s.budget.cap s.params.envLateMax)

/-- The interrupt is enabled exactly while `H.initialized = 1` (R147). -/
def State.irqEnabled (s : State) : Bool := s.h.initialized

/-- `rst` (spec/70_reset_and_hazards.md R170): the handle zero, nothing pending, `B = 0`; nothing is written to the downward
trace. The parameters are static and the inputs still to come are the environment's (log 7: DESIGN CHOICE, safe). -/
def State.assertReset (s : State) : State := { s with h := Handle.zero, pending := [], budget := .num 0 }

/-- Step 1 of the handler (R148): the completion status is read and at once cleared. -/
def acknowledge (s : State) : State := s.emit [.write .irqClear (.sym .ack)]

/-- Step 2a of the handler (R149, R157): the producer cursor after the advance, or the fault the spec names. -/
def producerAdvance (p : Params) (e : EventWord) (h : Handle) : Except Fault Nat :=
  if h.bufSet then
    match p.prodAdvance with
    | .selfIncrement => .ok (incMod h.idxProd h.blockCount)
    | .adoptIndex => if e.blkIndex < h.blockCount then .ok e.blkIndex else .error .evtBadIndex
  else .error .evtNoBuffer

/-- Step 2b (R150): new data has arrived. -/
def noteData (d : Dir) (h : Handle) : Handle :=
  match d with
  | .input => { h with bufferEmpty := false }
  | .output => { h with bufferFull := false }

/-- The full (input) or empty (output) flag of a catch, in both modes (R151). -/
def noteCatch (d : Dir) (h : Handle) : Handle :=
  match d with
  | .input => { h with bufferFull := true }
  | .output => { h with bufferEmpty := true }

/-- Steps 2a to 2c on the handle, with `q` the advanced producer cursor (R149 to R151). -/
def takeData (d : Dir) (q : Nat) (h : Handle) : Handle :=
  let h1 := noteData d { h with idxProd := q }
  let h2 := if catchUp q h1.idxRel then noteCatch d h1 else h1
  if ovfUdfFire true q h2.idxRel h2.singleMode then { h2 with ovfUdf := true } else h2

/-- Step 3 (R152). -/
def noteEos (e : EventWord) (h : Handle) : Handle := if endOfStream e then { h with eos := true } else h

/-- Step 4 (R153): a Single session ends on its first completion. -/
def endSingle (h : Handle) : Handle := if h.singleMode then { h with active := false } else h

/-- Step 5 (R154): at most one callback, with the combined mask, and none when it is empty or no callback is registered. -/
def callback (mask : EventMask) (s : State) : State :=
  if s.h.cbEn && mask != 0 then { s with evt := some mask } else s

/-- What an `EVT` does to the budget (R159): one event is spent, and an event that ends an active Single session caps what is
left. The order is that of spec/95_test_vectors.md V-Q1 (log 11: DEDUCED, safe). -/
def spendEvent (s : State) : State :=
  let s1 := s.setBudget s.budget.spend
  if s1.h.active && s1.h.singleMode then s1.capBudget else s1

/-- Steps 3 to 5 of the handler and the budget, with the mask that the earlier steps and the event word give. -/
def finishEvent (e : EventWord) (fire : Bool) (s : State) : State :=
  let s1 := spendEvent s
  callback (eventMask s.params.dir e fire) (s1.setHandle (endSingle (noteEos e s1.h)))

/-- TAKING THE COMPLETION INTERRUPT, the step `EVT(e)` (R155), which is enabled while the interrupt is. It saves nothing, and
there is no return from it: it ends after step 5 (R156). On a fault steps 3 to 5 are not performed (R157). -/
def handleEvent (e : EventWord) (s : State) : Answer :=
  let s1 := acknowledge s
  if dataReady e then
    match producerAdvance s1.params e s1.h with
    | .error f => .fault f
    | .ok q =>
        .next (finishEvent e (ovfUdfFire true q s1.h.idxRel s1.h.singleMode)
          (s1.setHandle (takeData s1.params.dir q s1.h)))
  else .next (finishEvent e false s1)

/-- A completion is raised: it becomes pending (spec/10_state.md R32 item 1). The arbiter does nothing. -/
def raiseCompletion (e : EventWord) (s : State) : State :=
  { s with pending := s.pending ++ [sampleEvent s.params e] }

/-- The interrupt is let in: the oldest pending completion is handled if the interrupt is enabled (R147); otherwise there is no
`EVT` step and nothing changes (log 6: DEDUCED, safe). -/
def deliverInterrupt (s : State) : Answer :=
  match s.pending with
  | [] => .next s
  | e :: rest => if s.irqEnabled then handleEvent e { s with pending := rest } else .next s

/-- The ports at the start of a step: the response and event ports carry what this step produces, and nothing of the last one
(spec/30_encoding.md R60, R65, log 9: DESIGN CHOICE, unsafe at reset). -/
def openStep (s : State) (rest : List Input) : State := { s with inputs := rest, rsp := none, evt := none }

end Sys2Proof.Machine
end

