-- ==== Sys2Proof/Machine/Blocks.lean ====
section
/-! DEFINITION. The block commands GETBLOCK, RELEASE, GETSTATUS (spec/42_block_commands.md). -/

namespace Sys2Proof.Machine

/-- The refusal conditions of GETBLOCK (R120). -/
def getRefused (d : Dir) (h : Handle) : Bool := !h.bufSet || (d == .input && h.bufferEmpty) || h.limitOwned

/-- The handle after a successful GETBLOCK (R121). -/
def acquireBlock (d : Dir) (h : Handle) : Handle :=
  let g := incMod h.idxGet h.blockCount
  { h with
    idxGet := g
    limitOwned := if parity g h.idxRel then true else h.limitOwned
    bufferEmpty := if d == .input && drained g h.idxProd then true else h.bufferEmpty
    bufferFull := false }

/-- GETBLOCK (R120, R121): the address is that of the acquire cursor before the advance. -/
def execGetblock (s : State) : Answer :=
  if getRefused s.params.dir s.h then .next (s.answer absentResponse)
  else .next ((s.setHandle (acquireBlock s.params.dir s.h)).answer (blockResponse (blkAddr s.params s.h s.h.idxGet)))

/-- The failure checks of RELEASE (R122). -/
def releaseRefused (h : Handle) : Bool := !h.bufSet || nothingHeld h

/-- The handle after a successful RELEASE (R123). -/
def giveBack (d : Dir) (h : Handle) : Handle :=
  let h1 := { h with idxRel := incMod h.idxRel h.blockCount, limitOwned := false }
  match d with
  | .input => { h1 with bufferFull := false }
  | .output => { h1 with bufferEmpty := false }

/-- RELEASE (R122, R123). -/
def execRelease (s : State) : Answer :=
  if releaseRefused s.h then .next (s.finish .invalidState)
  else .next ((s.setHandle (giveBack s.params.dir s.h)).finish .ok)

/-- GETSTATUS (R124): read and clear in one step. -/
def execGetstatus (s : State) : Answer :=
  .next ((s.setHandle { s.h with ovfUdf := false, eos := false }).answer
    (statusResponse (statusBits s.h.active s.h.ovfUdf s.h.eos)))

end Sys2Proof.Machine
end

