-- ==== Sys2Proof/Machine/Lifecycle.lean ====
section
/-! DEFINITION. The lifecycle commands INIT, UNINIT, SETBUF, START, STOP (spec/41_lifecycle_commands.md). -/

namespace Sys2Proof.Machine

/-- INIT (R101). -/
def execInit (m : Bool) (s : State) : Answer :=
  let s1 := s.setHandle { Handle.zero with initialized := true, cbEn := m }
  let s2 := s1.emit
    [.write .config (.cfg s.params.cfg), .barrier, .write .irqEnable (.sym .enable), .barrier]
  .next (s2.finish .ok)

/-- UNINIT (R102); it also caps the budget (spec/60_exceptions.md R159). -/
def execUninit (s : State) : Answer :=
  let s1 := s.emit
    [.write .irqEnable (.num 0), .write .control (.num 0), .write .dmaControl (.num 0), .write .timerControl (.num 0),
      .barrier]
  .next (((s1.setHandle Handle.zero).capBudget).finish .ok)

/-- The parameter check of SETBUF (R103): an absent base is 0 (spec/30_encoding.md R62). -/
def badBuffer (base total block : Nat) : Bool := base == 0 || total == 0 || block == 0 || decide (total < block)

/-- The handle after a successful SETBUF (R104). -/
def attachBuffer (base total block : Nat) (h : Handle) : Handle :=
  { h with
    bufSet := true, base := base, blockSize := block, blockCount := total / block,
    idxGet := 0, idxRel := 0, idxProd := 0,
    bufferEmpty := true, bufferFull := false, limitOwned := false }

/-- SETBUF (R103, R104): parameters before state. -/
def execSetbuf (base total block : Nat) (s : State) : Answer :=
  if badBuffer base total block then .next (s.finish .invalidParameter)
  else if !s.h.initialized || s.h.active then .next (s.finish .invalidState)
  else
    let s1 := s.setHandle (attachBuffer base total block s.h)
    let s2 := s1.emit
      [.write .dmaAddress (.num base), .write .dmaBlockNum (.num (total / block)), .write .dmaBlockSize (.num block),
        .barrier]
    .next (s2.finish .ok)

/-- The transfer direction bit (R107). -/
def dirBit : Dir → Sym
  | .input => .dirP2M
  | .output => .dirM2P

/-- The one-shot or periodic bit (R107). -/
def shotBit (m : Bool) : Sym := if m then .oneshot else .periodic

/-- The five groups of START, a barrier after each (R107, spec/20_memory.md R48), with `t` the interval. -/
def startWrites (d : Dir) (m : Bool) (t : Nat) : List Mark :=
  [.write .control (.num 0), .barrier,
    .write .timerInterval (.num t), .barrier,
    .write .control (.symOr .mode .enable), .barrier,
    .write .dmaControl (.symOr .enable (dirBit d)), .barrier,
    .write .timerControl (.symOr .run (shotBit m)), .barrier]

/-- The failure checks of START (R105). -/
def startRefused (d : Dir) (h : Handle) : Bool := !h.initialized || !h.bufSet || pointless d h

/-- START's programming sequence and verification (R107, R108), with what they do to the budget (spec/60_exceptions.md R159).
Only `active` is rolled back when the peripheral does not report itself active. -/
def startSession (m : Bool) (s : State) : State :=
  let s1 := s.setHandle { s.h with active := true, singleMode := m }
  let s2 := s1.emit (startWrites s.params.dir m (intervalUs s.params.cfg s.h.blockSize s.trace.length))
  if s2.periphActive then (s2.setBudget .unbounded).finish .ok
  else ((s2.setHandle { s2.h with active := false }).setBudget (.num s.params.envLateMax)).finish .deviceError

/-- START (R105 to R108): the failure checks, then the already-active no-op, then the session. -/
def execStart (m : Bool) (s : State) : Answer :=
  if startRefused s.params.dir s.h then .next (s.finish .invalidState)
  else if s.h.active then .next (s.finish .ok)
  else .next (startSession m s)

/-- STOP (R109); one that finds the session active caps the budget (spec/60_exceptions.md R159). -/
def execStop (s : State) : Answer :=
  if s.h.active then
    let s1 := s.emit [.write .timerControl (.num 0), .write .dmaControl (.num 0), .write .control (.num 0), .barrier]
    .next (((s1.setHandle { s1.h with active := false }).capBudget).finish .ok)
  else .next (s.finish .ok)

end Sys2Proof.Machine
end

