-- ==== Sys2Proof/Machine/Dispatch.lean ====
section
/-! DEFINITION. The dispatch: one arm for each instruction. -/

namespace Sys2Proof.Machine

def exec (i : Instr) (s : State) : Host.Outcome State Fault Refusal :=
  match i with
  | .init m => Sys2Proof.Machine.execInit m s
  | .uninit => Sys2Proof.Machine.execUninit s
  | .setbuf base total block => Sys2Proof.Machine.execSetbuf base total block s
  | .start m => Sys2Proof.Machine.execStart m s
  | .stop => Sys2Proof.Machine.execStop s
  | .getblock => Sys2Proof.Machine.execGetblock s
  | .release => Sys2Proof.Machine.execRelease s
  | .getstatus => Sys2Proof.Machine.execGetstatus s

end Sys2Proof.Machine
end

