-- ==== Sys2Proof/Machine/Service.lean ====
section
/-! DEFINITION. Serving one input of the schedule: the body of a step (spec/60_exceptions.md R158: one command or one event, atomic). -/

namespace Sys2Proof.Machine

/-- One command: its port value is sampled and decoded; a legal word runs (spec/41_lifecycle_commands.md R100), with the peripheral's
answer on the register port; an illegal word is answered and changes nothing (spec/30_encoding.md R71). -/
def serveCommand (c : CommandPort) (periphActive : Bool) (s : State) : Answer :=
  match decode (sampleCommand s.params c) with
  | .ok i => exec i { s with periphActive := periphActive }
  | .error _ => .next (s.answer illegalResponse)

/-- One input. -/
def serveInput (x : Input) (s : State) : Answer :=
  match x with
  | .rst => .next s.assertReset
  | .command c periphActive => serveCommand c periphActive s
  | .completion e => .next (raiseCompletion e s)
  | .deliver => deliverInterrupt s

/-- The next input of the schedule; with none, nothing happens (log 5: DESIGN CHOICE, safe). -/
def serveNext (s : State) : Answer :=
  match s.inputs with
  | [] => .next (openStep s [])
  | x :: rest => serveInput x (openStep s rest)

/-- The command port value of an instruction word of the table, its operand signals 0. -/
def tableCommand (w : Nat) : Input := .command ⟨BitVec.ofNat 8 w, 0, 0, 0⟩ true

end Sys2Proof.Machine
end

