-- ==== Sys2Proof/Machine/Step.lean ====
section
/-! DEFINITION. One step of the machine, and how a program word comes to be the next one. -/

namespace Sys2Proof.Machine

/-- One step: the next input of the schedule is served. -/
def step (s : State) : Host.Outcome State Fault Refusal := serveNext s

/-- The state whose next step runs the command word `w` of the table: the command stands at the front of the schedule, its
operand signals 0 and the peripheral answering "active" (spec/30_encoding.md R73; log 4: DESIGN CHOICE, safe; log 8:
DESIGN CHOICE, unsafe). The command word is the whole instruction, so `nbits` is not needed. -/
def State.withFetchWord (s : State) (_nbits w : Nat) : State := { s with inputs := tableCommand w :: s.inputs }

end Sys2Proof.Machine
end

