-- ==== Sys2Proof/Machine/System.lean ====
section
/-! DEFINITION. A system of the source's four channels: one arbiter instance each, nothing shared (spec/00_scope.md R2,
spec/60_exceptions.md R163). It is the product of independent instances; a statement about one instance is a statement about
`Machine.step`, and this file only says how four of them stand side by side (log 19: DESIGN CHOICE, safe). -/

namespace Sys2Proof.Machine

/-- The four channels the source names (R2). -/
inductive Channel where
  | audioIn
  | audioOut
  | videoIn
  | videoOut
deriving DecidableEq, Repr

/-- One instance per channel (R163). -/
structure System where
  audioIn  : State
  audioOut : State
  videoIn  : State
  videoOut : State
deriving DecidableEq, Repr

/-- The direction of a channel (spec/92_eei_decisions.md, open parameter `DIR`: two are `In`, two are `Out`). -/
def channelDir : Channel → Dir
  | .audioIn => .input
  | .audioOut => .output
  | .videoIn => .input
  | .videoOut => .output

/-- The kind of a channel: the audio channels are `Audio` and the video channels `Frame`. The spec maps no channel name to a `KIND`
(R4: fixed per instance), so this is the model's reading of the names (log 23: DESIGN CHOICE, unsafe). No other definition uses it:
`System.resetOf` takes any configuration for any channel. -/
def channelKind : Channel → Kind
  | .audioIn => .audio
  | .audioOut => .audio
  | .videoIn => .frame
  | .videoOut => .frame

/-- The instance of a channel. -/
def System.get (y : System) : Channel → State
  | .audioIn => y.audioIn
  | .audioOut => y.audioOut
  | .videoIn => y.videoIn
  | .videoOut => y.videoOut

/-- Replaces the instance of a channel. -/
def System.set (y : System) (c : Channel) (s : State) : System :=
  match c with
  | .audioIn => { y with audioIn := s }
  | .audioOut => { y with audioOut := s }
  | .videoIn => { y with videoIn := s }
  | .videoOut => { y with videoOut := s }

/-- One step of the instance of channel `c`; which channel steps is not ordered (R163). A handler fault in one channel ends the run
of the whole system, with no state: the spec does not say what becomes of the other three (log 24: DESIGN CHOICE, safe). -/
def System.step (c : Channel) (y : System) : Host.Outcome System Fault Refusal :=
  match Sys2Proof.Machine.step (y.get c) with
  | .next s => .next (y.set c s)
  | .fault f => .fault f
  | .refused r => .refused r

/-- Every instance begins in its reset state (R163), with the direction of its channel. -/
def System.resetOf (p : Channel → Params) : System where
  audioIn  := State.resetOf { p .audioIn with dir := channelDir .audioIn }
  audioOut := State.resetOf { p .audioOut with dir := channelDir .audioOut }
  videoIn  := State.resetOf { p .videoIn with dir := channelDir .videoIn }
  videoOut := State.resetOf { p .videoOut with dir := channelDir .videoOut }

end Sys2Proof.Machine
end

