-- ==== Sys2Proof/Safety.lean ====
section
/-! DEFINITION. The terms claims are made in: the lifecycle (spec/10_state.md R28), the blocks the consumer holds (R30 item 9,
spec/20_memory.md R56), the invariants of R26 and R30, the environment assumption `ENV-QUIET` (spec/60_exceptions.md R159), and
repeating one command or one event. -/

namespace Sys2Proof.Machine

/-- An illegal command word, by the three causes of spec/30_encoding.md R71, read off the word as a number: `rsv` is the three
highest bits, `op` the four lowest, `m` bit 4. -/
def illegalWord (w : CmdWord) : Prop :=
  w.toNat / 32 ≠ 0 ∨ 8 ≤ w.toNat % 16 ∨ (w.getLsbD 4 = true ∧ w.toNat % 16 ≠ 0 ∧ w.toNat % 16 ≠ 3)

/-- The lifecycle states of R28. -/
inductive Lifecycle where
  | uninitialized
  | idleNoBuffer
  | idleAttached
  | activeContinuous
  | activeSingle
deriving DecidableEq, Repr

/-- The lifecycle state, a function of the handle (R28). -/
def lifecycle (h : Handle) : Lifecycle :=
  if !h.initialized then .uninitialized
  else if h.active then (if h.singleMode then .activeSingle else .activeContinuous)
  else if h.bufSet then .idleAttached
  else .idleNoBuffer

/-- `held(H)`, the number of blocks the consumer has acquired and not yet released (R30 item 9). -/
def held (h : Handle) : Nat :=
  if !h.bufSet then 0
  else if h.limitOwned then h.blockCount
  else (h.idxGet + h.blockCount - h.idxRel) % h.blockCount

/-- The application side owns block `k`: it is one of the `held(H)` blocks that start at `H.idx_rel` and go up modulo `N`
(spec/20_memory.md R56). -/
def appOwns (h : Handle) (k : Nat) : Prop :=
  ∃ j, j < held h ∧ k = (h.idxRel + j) % h.blockCount

/-- A session that a catch has left full (input) or empty (output), the state in which START is refused
(spec/70_reset_and_hazards.md R181). -/
def caught (s : State) : Prop :=
  s.h.initialized = true ∧ s.h.bufSet = true ∧
    (s.params.dir = .input ∧ s.h.bufferFull = true ∨ s.params.dir = .output ∧ s.h.bufferEmpty = true)

/-- The invariants of the handle (R26, R30), for an instance with parameters `p`. -/
structure HandleInv (p : Params) (h : Handle) : Prop where
  /-- R30 item 1. -/
  zero_outside : h.initialized = false → h = Handle.zero
  /-- R30 item 2. -/
  active_needs : h.active = true → h.bufSet = true ∧ h.initialized = true
  /-- R30 item 3. -/
  ranges : h.bufSet = true → 1 ≤ h.blockSize ∧ 1 ≤ h.blockCount ∧
    h.idxGet < h.blockCount ∧ h.idxRel < h.blockCount ∧ h.idxProd < h.blockCount
  /-- R30 item 4. -/
  limit_parity : h.limitOwned = true → h.idxGet = h.idxRel
  /-- R30 item 5. -/
  empty_meets : p.dir = .input → h.bufferEmpty = true → h.idxGet = h.idxProd
  /-- R30 item 6. -/
  empty_not_full : p.dir = .input → ¬(h.bufferEmpty = true ∧ h.bufferFull = true)
  /-- R30 item 7. -/
  output_not_full : p.dir = .output → h.bufferFull = false
  /-- R30 item 8. -/
  callback_needs : h.cbEn = true → h.initialized = true
  /-- R30 item 9, the bound. -/
  held_le : held h ≤ h.blockCount
  /-- R30 item 9, the exact form of the source's invariant of the limit flag. -/
  limit_iff : h.limitOwned = true ↔ h.bufSet = true ∧ held h = h.blockCount
  /-- R26: without a buffer the geometry registers and cursors are all 0. -/
  no_buffer : h.bufSet = false → h.base = 0 ∧ h.blockSize = 0 ∧ h.blockCount = 0 ∧
    h.idxGet = 0 ∧ h.idxRel = 0 ∧ h.idxProd = 0
  /-- R10: each register fits its width. -/
  widths : h.base < 2 ^ p.addrW ∧ h.blockSize < 2 ^ p.sizeW ∧ h.blockCount < 2 ^ p.sizeW

/-- The invariant of a state: that of the handle, and every pending event word fits its port. -/
structure State.Inv (s : State) : Prop where
  handle : HandleInv s.params s.h
  pending_wf : ∀ e ∈ s.pending, e.wf s.params = true

/-- The next step is a step `EVT`: the scheduler lets the interrupt in, it is enabled, and a completion is pending (R147). -/
def eventDue (s : State) : Bool :=
  match s.inputs, s.pending with
  | .deliver :: _, _ :: _ => s.irqEnabled
  | _, _ => false

/-- `ENV-QUIET` at this step: an event is delivered only while the budget is not 0 (R159). -/
def EnvQuiet (s : State) : Prop := eventDue s = true → s.budget ≠ .num 0

/-- `B` is a number, at most `n`. -/
def Budget.atMost (b : Budget) (n : Nat) : Prop := ∃ m, b = .num m ∧ m ≤ n

/-- The same instruction `k` times, as long as it answers next. -/
def repeatExec (i : Instr) : Nat → State → Answer
  | 0, s => .next s
  | k + 1, s =>
    match exec i s with
    | .next t => repeatExec i k t
    | .fault f => .fault f
    | .refused r => .refused r

/-- The same event `k` times, as long as the handler answers next. -/
def repeatEvent (e : EventWord) : Nat → State → Answer
  | 0, s => .next s
  | k + 1, s =>
    match handleEvent e s with
    | .next t => repeatEvent e k t
    | .fault f => .fault f
    | .refused r => .refused r

end Sys2Proof.Machine
end

