-- ==== Sys2Proof/Certificates/Slice0/Obligations.lean ====
section
/-! DEFINITION. The statements for the provers. Each formalises the rule of spec/ its docstring names. A statement of a command's
result gives the whole next state, so it is the command's frame and its completion as well: every field not named is unchanged. -/

open Sys2Proof Sys2Proof.Machine

/-! ### Decoding (spec/30_encoding.md) -/

/-- R63: each row's match and mask select its command, whatever stands on the other ports; only SETBUF takes the operands. -/
def Obligations.OpcodeRowsSelectTheirCommand : Prop :=
  ∀ c : CommandPort,
    (c.cmd &&& 0xEF = 0x00 → decode c = .ok (.init (c.cmd.getLsbD 4))) ∧
    (c.cmd &&& 0xFF = 0x01 → decode c = .ok .uninit) ∧
    (c.cmd &&& 0xFF = 0x02 → decode c = .ok (.setbuf c.argBase c.argTotal c.argBlock)) ∧
    (c.cmd &&& 0xEF = 0x03 → decode c = .ok (.start (c.cmd.getLsbD 4))) ∧
    (c.cmd &&& 0xFF = 0x04 → decode c = .ok .stop) ∧
    (c.cmd &&& 0xFF = 0x05 → decode c = .ok .getblock) ∧
    (c.cmd &&& 0xFF = 0x06 → decode c = .ok .release) ∧
    (c.cmd &&& 0xFF = 0x07 → decode c = .ok .getstatus)

/-- R71: a word is illegal by exactly the three causes, 10 words are legal and 246 are not, and a step that meets an illegal word
answers `rsp_illegal = 1` with every other response signal 0 and changes no handle field, emits nothing and calls nobody back. -/
def Obligations.IllegalWordsSpellNoCommand : Prop :=
  (∀ c : CommandPort, (∃ why, decode c = .error why) ↔ illegalWord c.cmd) ∧
  ((List.range 256).filter (fun w => (decodeTableWord 8 w).isSome)).length = 10 ∧
  ((List.range 256).filter (fun w => (decodeTableWord 8 w).isNone)).length = 246 ∧
  (∀ (s : State) (c : CommandPort) (answer : Bool) (rest : List Input),
    s.inputs = .command c answer :: rest → illegalWord c.cmd →
      step s = .next { s with inputs := rest, rsp := some ⟨true, 0, false, 0, 0⟩, evt := none })

/-- R75: every word either selects exactly one row of the table, and decodes to that row's command, or is illegal. -/
def Obligations.EveryWordSelectsOneRowOrNone : Prop :=
  ∀ (w : CmdWord) (base total block : Nat),
    (∃ r ∈ opcodeTable, r.selects w = true ∧ (∀ r' ∈ opcodeTable, r'.selects w = true → r' = r) ∧ ¬ illegalWord w ∧
      ∃ i, decode ⟨w, base, total, block⟩ = .ok i ∧ i.mnemonic = r.mnemonic) ∨
    ((∀ r ∈ opcodeTable, r.selects w = false) ∧ illegalWord w ∧ ∃ why, decode ⟨w, base, total, block⟩ = .error why)

/-- R61 to R64: decoding the encoding of a well-formed instruction, as the instance's wires carry it, gives the instruction back;
and a port value that decodes is the encoding of what it decodes to, up to the operand signals that the command ignores. -/
def Obligations.DecodeAndEncodeAgree : Prop :=
  (∀ (p : Params) (i : Instr), i.wf p = true → decode (sampleCommand p (encode i)) = .ok i) ∧
  (∀ (c : CommandPort) (i : Instr), decode c = .ok i →
    (encode i).cmd = c.cmd ∧ ((∃ b t k, i = .setbuf b t k) → encode i = c))

/-- R73: the command words of the text syntax, written out in bits. -/
def Obligations.WordsOfTheTextSyntax : Prop :=
  decode ⟨0b00010000, 0, 0, 0⟩ = .ok (.init true) ∧
  decode ⟨0b00000010, 0x20000000, 4096, 1024⟩ = .ok (.setbuf 0x20000000 4096 1024) ∧
  decode ⟨0b00010011, 0, 0, 0⟩ = .ok (.start true) ∧
  decode ⟨0b00000101, 0, 0, 0⟩ = .ok .getblock ∧
  decode ⟨0b00000111, 0, 0, 0⟩ = .ok .getstatus

/-! ### Steps (spec/60_exceptions.md R147, R158; spec/70_reset_and_hazards.md R170) -/

/-- A command step is its instruction: the port value is sampled and decoded, the answer to a `STATUS` read stands on the
register port, and the response and event ports carry only what this step produces (log 4, log 8, log 9). -/
def Obligations.StepRunsTheDecodedCommand : Prop :=
  ∀ (s : State) (c : CommandPort) (answer : Bool) (rest : List Input) (i : Instr),
    s.inputs = .command c answer :: rest → decode (sampleCommand s.params c) = .ok i →
      step s = exec i { s with inputs := rest, rsp := none, evt := none, periphActive := answer }

/-- A command word of the table that is placed in front of the schedule is what the next step runs, its operand signals 0 and the
peripheral answering "active" (the model's choice, log 4, log 8). -/
def Obligations.PlacedWordIsTheNextCommand : Prop :=
  ∀ (s : State) (nbits w : Nat) (i : Instr), decodeTableWord nbits w = some i →
    step (s.withFetchWord nbits w) = exec i { s with rsp := none, evt := none, periphActive := true }

/-- R147 and R32: a completion becomes pending, its block index as the port's wires carry it, and moves nothing else; a word that fits
the port is the word that becomes pending. When the scheduler lets the interrupt in, the oldest pending completion is handled exactly
when `H.initialized = 1`, in Idle as well as in Active. The schedule, the waiting while disabled and the reduction to the port's width
are the model's (log 3, log 4, log 6). -/
def Obligations.EventsAreDeliveredWhileInitialized : Prop :=
  ∀ (s : State) (rest : List Input),
    (∀ e, s.inputs = .completion e :: rest →
      step s = .next { s with
        inputs := rest, rsp := none, evt := none
        pending := s.pending ++ [⟨e.ev, e.blkIndex % 2 ^ s.params.sizeW⟩] }) ∧
    (∀ e, s.inputs = .completion e :: rest → e.wf s.params = true →
      step s = .next { s with inputs := rest, rsp := none, evt := none, pending := s.pending ++ [e] }) ∧
    (s.inputs = .deliver :: rest → s.pending = [] ∨ s.h.initialized = false →
      step s = .next { s with inputs := rest, rsp := none, evt := none }) ∧
    (∀ e more, s.inputs = .deliver :: rest → s.pending = e :: more → s.h.initialized = true →
      step s = handleEvent e { s with inputs := rest, rsp := none, evt := none, pending := more })

/-- R170: `rst` zeroes every field of the handle, makes `B` 0 and leaves nothing pending, and writes nothing to the trace. -/
def Obligations.ResetInputZeroesTheInstance : Prop :=
  ∀ (s : State) (rest : List Input), s.inputs = .rst :: rest →
    ∃ t, step s = .next t ∧
      t.h = ⟨false, false, false, 0, 0, 0, 0, 0, 0, false, false, false, false, false, false, false⟩ ∧
      lifecycle t.h = .uninitialized ∧ t.budget = .num 0 ∧ t.pending = [] ∧ t.trace = s.trace

/-- R33: after reset every field of `H` is 0, the lifecycle state is Uninitialized, no completion is pending, no event is in flight
and the interrupt is disabled, for every instance. -/
def Obligations.ResetStateIsZero : Prop :=
  ∀ s : State, (s = State.reset ∨ ∃ p, s = State.resetOf p) →
    s.h.initialized = false ∧ s.h.cbEn = false ∧ s.h.bufSet = false ∧ s.h.base = 0 ∧ s.h.blockSize = 0 ∧
    s.h.blockCount = 0 ∧ s.h.idxGet = 0 ∧ s.h.idxRel = 0 ∧ s.h.idxProd = 0 ∧ s.h.active = false ∧
    s.h.singleMode = false ∧ s.h.limitOwned = false ∧ s.h.bufferEmpty = false ∧ s.h.bufferFull = false ∧
    s.h.ovfUdf = false ∧ s.h.eos = false ∧ lifecycle s.h = .uninitialized ∧ s.pending = [] ∧ s.budget = .num 0 ∧
    s.irqEnabled = false

/-! ### Lifecycle commands (spec/41_lifecycle_commands.md) -/

/-- R101: INIT zeroes the handle, sets `initialized` and `cb_en`, writes CONFIG and the interrupt enable with a barrier after each,
and always succeeds, in every state. -/
def Obligations.InitStartsAFreshHandle : Prop :=
  ∀ (m : Bool) (s : State),
    let t : State := { s with
      h := ⟨true, m, false, 0, 0, 0, 0, 0, 0, false, false, false, false, false, false, false⟩
      trace := s.trace ++
        [.write .config (.cfg s.params.cfg), .barrier, .write .irqEnable (.sym .enable), .barrier]
      rsp := some ⟨false, 0, false, 0, 0⟩ }
    exec (.init m) s = .next t ∧ lifecycle t.h = .idleNoBuffer ∧ t.irqEnabled = true

/-- R102: UNINIT writes the four disabling registers and zeroes the handle, and always succeeds, in every state. The budget is that
of R159. -/
def Obligations.UninitZeroesTheHandle : Prop :=
  ∀ s : State,
    let t : State := { s with
      h := ⟨false, false, false, 0, 0, 0, 0, 0, 0, false, false, false, false, false, false, false⟩
      trace := s.trace ++
        [.write .irqEnable (.num 0), .write .control (.num 0), .write .dmaControl (.num 0),
          .write .timerControl (.num 0), .barrier]
      budget := s.budget.cap s.params.envLateMax
      rsp := some ⟨false, 0, false, 0, 0⟩ }
    exec .uninit s = .next t ∧ lifecycle t.h = .uninitialized ∧ t.irqEnabled = false

/-- R103: SETBUF's parameter check comes before its state check; either failure changes nothing but the response. -/
def Obligations.SetbufChecksParametersThenState : Prop :=
  ∀ (base total block : Nat) (s : State),
    (base = 0 ∨ total = 0 ∨ block = 0 ∨ block > total →
      exec (.setbuf base total block) s = .next { s with rsp := some ⟨false, 1, false, 0, 0⟩ }) ∧
    (¬(base = 0 ∨ total = 0 ∨ block = 0 ∨ block > total) → s.h.initialized = false ∨ s.h.active = true →
      exec (.setbuf base total block) s = .next { s with rsp := some ⟨false, 2, false, 0, 0⟩ })

/-- R104: a SETBUF that passes both checks attaches the buffer, in both directions alike. -/
def Obligations.SetbufAttachesTheBuffer : Prop :=
  ∀ (base total block : Nat) (s : State),
    base ≠ 0 → total ≠ 0 → block ≠ 0 → block ≤ total → s.h.initialized = true → s.h.active = false →
      exec (.setbuf base total block) s = .next { s with
        h := { s.h with
          bufSet := true, base := base, blockSize := block, blockCount := total / block,
          idxGet := 0, idxRel := 0, idxProd := 0, bufferEmpty := true, bufferFull := false, limitOwned := false }
        trace := s.trace ++
          [.write .dmaAddress (.num base), .write .dmaBlockNum (.num (total / block)),
            .write .dmaBlockSize (.num block), .barrier]
        rsp := some ⟨false, 0, false, 0, 0⟩ }

/-- R105 (with the pointless-transfer detector of R89): START's failure checks, which come before the already-active test. -/
def Obligations.StartIsRefusedInTheWrongState : Prop :=
  ∀ (m : Bool) (s : State),
    s.h.initialized = false ∨ s.h.bufSet = false ∨ (s.params.dir = .input ∧ s.h.bufferFull = true) ∨
      (s.params.dir = .output ∧ s.h.bufferEmpty = true) →
    exec (.start m) s = .next { s with rsp := some ⟨false, 2, false, 0, 0⟩ }

/-- R106: START while already active answers Ok and does nothing. -/
def Obligations.StartWhileActiveIsANoOp : Prop :=
  ∀ (m : Bool) (s : State),
    s.h.initialized = true → s.h.bufSet = true → (s.params.dir = .input → s.h.bufferFull = false) →
    (s.params.dir = .output → s.h.bufferEmpty = false) → s.h.active = true →
      exec (.start m) s = .next { s with rsp := some ⟨false, 0, false, 0, 0⟩ }

/-- R107, R108: START's five register groups in order with a barrier after each, and the verification: only `active` is rolled
back, and the result is DeviceError, when the peripheral does not report itself active. The budget is that of R159. -/
def Obligations.StartProgramsAndVerifies : Prop :=
  ∀ (m : Bool) (s : State),
    s.h.initialized = true → s.h.bufSet = true → (s.params.dir = .input → s.h.bufferFull = false) →
    (s.params.dir = .output → s.h.bufferEmpty = false) → s.h.active = false →
    let writes : List Mark :=
      [.write .control (.num 0), .barrier,
        .write .timerInterval (.num (intervalUs s.params.cfg s.h.blockSize s.trace.length)), .barrier,
        .write .control (.symOr .mode .enable), .barrier,
        .write .dmaControl (.symOr .enable (if s.params.dir = .input then .dirP2M else .dirM2P)), .barrier,
        .write .timerControl (.symOr .run (if m = true then .oneshot else .periodic)), .barrier]
    (s.periphActive = true → exec (.start m) s = .next { s with
      h := { s.h with active := true, singleMode := m }
      trace := s.trace ++ writes
      budget := .unbounded
      rsp := some ⟨false, 0, false, 0, 0⟩ }) ∧
    (s.periphActive = false → exec (.start m) s = .next { s with
      h := { s.h with active := false, singleMode := m }
      trace := s.trace ++ writes
      budget := .num s.params.envLateMax
      rsp := some ⟨false, 3, false, 0, 0⟩ })

/-- R109: STOP disables timer, DMA and control and clears `active` only, and is a no-op on an inactive handle; always Ok. The
budget is that of R159. -/
def Obligations.StopEndsTheSession : Prop :=
  ∀ s : State,
    (s.h.active = true → exec .stop s = .next { s with
      h := { s.h with active := false }
      trace := s.trace ++
        [.write .timerControl (.num 0), .write .dmaControl (.num 0), .write .control (.num 0), .barrier]
      budget := s.budget.cap s.params.envLateMax
      rsp := some ⟨false, 0, false, 0, 0⟩ }) ∧
    (s.h.active = false → exec .stop s = .next { s with rsp := some ⟨false, 0, false, 0, 0⟩ })

/-! ### Block commands (spec/42_block_commands.md) -/

/-- R120: GETBLOCK's refusal conditions all answer "absent" and change nothing but the response. -/
def Obligations.GetblockAnswersAbsent : Prop :=
  ∀ s : State,
    s.h.bufSet = false ∨ (s.params.dir = .input ∧ s.h.bufferEmpty = true) ∨ s.h.limitOwned = true →
      exec .getblock s = .next { s with rsp := some ⟨false, 0, false, 0, 0⟩ }

/-- R121 (with the address function of R42): a GETBLOCK that is not refused hands out the block of the acquire cursor, advances the
cursor, and sets the limit flag on parity and, in the input direction, the empty flag on catching up with the producer. -/
def Obligations.GetblockHandsOutTheNextBlock : Prop :=
  ∀ s : State,
    s.h.bufSet = true → (s.params.dir = .input → s.h.bufferEmpty = false) → s.h.limitOwned = false →
      let g := incMod s.h.idxGet s.h.blockCount
      exec .getblock s = .next { s with
        h := { s.h with
          idxGet := g
          limitOwned := decide (g = s.h.idxRel)
          bufferEmpty := if s.params.dir = .input ∧ g = s.h.idxProd then true else s.h.bufferEmpty
          bufferFull := false }
        rsp := some ⟨false, 0, true, (s.h.base + s.h.idxGet * s.h.blockSize) % 2 ^ s.params.addrW, 0⟩ }

/-- R122: RELEASE without a buffer, or with nothing held, answers InvalidState and changes nothing but the response. -/
def Obligations.ReleaseOfNothingIsRefused : Prop :=
  ∀ s : State,
    s.h.bufSet = false ∨ (s.h.idxRel = s.h.idxGet ∧ s.h.limitOwned = false) →
      exec .release s = .next { s with rsp := some ⟨false, 2, false, 0, 0⟩ }

/-- R123: a RELEASE that is not refused advances the release cursor, clears the limit flag, and clears the full flag (input) or the
empty flag (output). -/
def Obligations.ReleaseGivesTheOldestBlockBack : Prop :=
  ∀ s : State,
    s.h.bufSet = true → ¬(s.h.idxRel = s.h.idxGet ∧ s.h.limitOwned = false) →
      exec .release s = .next { s with
        h := { s.h with
          idxRel := incMod s.h.idxRel s.h.blockCount
          limitOwned := false
          bufferFull := if s.params.dir = .input then false else s.h.bufferFull
          bufferEmpty := if s.params.dir = .output then false else s.h.bufferEmpty }
        rsp := some ⟨false, 0, false, 0, 0⟩ }

/-- R124 (with the bit positions of R68): GETSTATUS returns the three bits and clears the two sticky flags in the same step. -/
def Obligations.GetstatusReadsAndClears : Prop :=
  ∀ s : State, ∃ b : StatusBits,
    b.getLsbD 0 = s.h.active ∧ b.getLsbD 1 = s.h.ovfUdf ∧ b.getLsbD 2 = s.h.eos ∧
    exec .getstatus s = .next { s with
      h := { s.h with ovfUdf := false, eos := false }
      rsp := some ⟨false, 0, false, 0, b⟩ }

/-! ### The completion interrupt (spec/60_exceptions.md) -/

/-- R148, R152, R153, R154: an event whose word signals no data, in every state: acknowledged, end of stream noted, a Single
session ended, one callback if the mask is not empty and a callback is registered. The budget clause rests on R159; that an event
spends before it caps, and that 0 stays 0, is the model's choice (log 11, DEDUCED). -/
def Obligations.EventWithoutDataRunsTheHandler : Prop :=
  ∀ (e : EventWord) (s : State), e.ev.getLsbD 0 = false →
    handleEvent e s = .next { s with
      h := { s.h with
        eos := s.h.eos || e.ev.getLsbD 1
        active := s.h.active && !s.h.singleMode }
      trace := s.trace ++ [.write .irqClear (.sym .ack)]
      budget :=
        if s.h.active = true ∧ s.h.singleMode = true then s.budget.spend.cap s.params.envLateMax else s.budget.spend
      evt := if s.h.cbEn = true ∧ e.ev.getLsbD 1 = true then some 0b1000 else s.evt }

/-- R148 to R154: a data-ready event with a buffer attached, with `q` the advanced producer cursor of either strategy of R149. The
budget clause rests on R159; that an event spends before it caps, and that 0 stays 0, is the model's choice (log 11, DEDUCED). -/
def Obligations.EventWithDataRunsTheHandler : Prop :=
  ∀ (e : EventWord) (s : State) (q : Nat), e.ev.getLsbD 0 = true → s.h.bufSet = true →
    (s.params.prodAdvance = .selfIncrement ∧ q = incMod s.h.idxProd s.h.blockCount ∨
      s.params.prodAdvance = .adoptIndex ∧ e.blkIndex < s.h.blockCount ∧ q = e.blkIndex) →
    let caught : Bool := decide (q = s.h.idxRel)
    let fire : Bool := caught && !s.h.singleMode
    let mask : EventMask :=
      BitVec.ofBool (e.ev.getLsbD 1) ++ BitVec.ofBool (fire && decide (s.params.dir = .output)) ++
        BitVec.ofBool (fire && decide (s.params.dir = .input)) ++ 1#1
    handleEvent e s = .next { s with
      h := { s.h with
        idxProd := q
        bufferEmpty := if s.params.dir = .input then false else s.h.bufferEmpty || caught
        bufferFull := if s.params.dir = .input then s.h.bufferFull || caught else false
        ovfUdf := s.h.ovfUdf || fire
        eos := s.h.eos || e.ev.getLsbD 1
        active := s.h.active && !s.h.singleMode }
      trace := s.trace ++ [.write .irqClear (.sym .ack)]
      budget :=
        if s.h.active = true ∧ s.h.singleMode = true then s.budget.spend.cap s.params.envLateMax else s.budget.spend
      evt := if s.h.cbEn = true then some mask else s.evt }

/-- R157, and the index check of R149: the two faults of the handler, which give no state; and without a buffer an event that
signals no data runs steps 3 to 5. -/
def Obligations.EventFaultsByName : Prop :=
  ∀ (e : EventWord) (s : State),
    (e.ev.getLsbD 0 = true → s.h.bufSet = false → handleEvent e s = .fault .evtNoBuffer) ∧
    (e.ev.getLsbD 0 = true → s.h.bufSet = true → s.params.prodAdvance = .adoptIndex → e.blkIndex ≥ s.h.blockCount →
      handleEvent e s = .fault .evtBadIndex) ∧
    (e.ev.getLsbD 0 = false → s.h.bufSet = false → ∃ t, handleEvent e s = .next t ∧
      t.h.eos = (s.h.eos || e.ev.getLsbD 1) ∧ t.h.active = (s.h.active && !s.h.singleMode) ∧
      t.evt = if s.h.cbEn = true ∧ e.ev.getLsbD 1 = true then some 0b1000 else s.evt)

/-- The property of R153: a session started Single ends at its first completion, whatever fired, and that event never sets the
sticky overflow/underflow flag nor its mask bits. -/
def Obligations.SingleSessionEndsAtItsFirstEvent : Prop :=
  ∀ (s u t : State) (e : EventWord),
    exec (.start true) s = .next u → u.h.active = true → s.h.active = false → s.evt = none →
    handleEvent e u = .next t →
      t.h.active = false ∧ t.h.ovfUdf = s.h.ovfUdf ∧
      ∀ m, t.evt = some m → m.getLsbD 1 = false ∧ m.getLsbD 2 = false

/-- R69, R91, R154: there is a callback exactly when one is registered and the mask is not empty; it carries all bits at once: Data and
Eos as the event word has them, Overflow and Underflow on a catch in Continuous mode, in the direction of the instance only. -/
def Obligations.CallbackCarriesTheCombinedMask : Prop :=
  ∀ (e : EventWord) (s t : State), s.evt = none → handleEvent e s = .next t →
    (t.evt ≠ none ↔ s.h.cbEn = true ∧ (e.ev.getLsbD 0 = true ∨ e.ev.getLsbD 1 = true)) ∧
    ∀ m, t.evt = some m →
      m ≠ 0 ∧ m.getLsbD 0 = e.ev.getLsbD 0 ∧ m.getLsbD 3 = e.ev.getLsbD 1 ∧
      (m.getLsbD 1 = true ↔ e.ev.getLsbD 0 = true ∧ t.h.idxProd = s.h.idxRel ∧ s.h.singleMode = false ∧
        s.params.dir = .input) ∧
      (m.getLsbD 2 = true ↔ e.ev.getLsbD 0 = true ∧ t.h.idxProd = s.h.idxRel ∧ s.h.singleMode = false ∧
        s.params.dir = .output) ∧
      (m.getLsbD 1 = true ∨ m.getLsbD 2 = true → t.h.ovfUdf = true)

/-- R85: the handler does not look at `H.active`, at `H.idx_get` or at `H.limit_owned`: two states that differ there agree after
the event in the cursor, the flow flags, the sticky flags, the callback and the trace. -/
def Obligations.HandlerIgnoresActiveAndTheAcquireSide : Prop :=
  ∀ (e : EventWord) (s t : State) (active limit : Bool) (get : Nat), handleEvent e s = .next t →
    ∃ t', handleEvent e { s with h := { s.h with active := active, limitOwned := limit, idxGet := get } } = .next t' ∧
      t'.h.idxProd = t.h.idxProd ∧ t'.h.bufferEmpty = t.h.bufferEmpty ∧ t'.h.bufferFull = t.h.bufferFull ∧
      t'.h.ovfUdf = t.h.ovfUdf ∧ t'.h.eos = t.h.eos ∧ t'.evt = t.evt ∧ t'.trace = t.trace

/-! ### Cursors, comparator, addresses (spec/40_comparators_and_flags.md, spec/20_memory.md) -/

/-- R83: on `SIZE_W`-bit values the gray code tells indices apart, and `ungray` undoes it. -/
def Obligations.GrayCodeIsInvertible : Prop :=
  ∀ w a b : Nat, a < 2 ^ w → b < 2 ^ w →
    (gray a = gray b ↔ a = b) ∧ ungray w (gray a) = a ∧ gray a < 2 ^ w

/-- R82: consecutive indices differ in exactly one bit of their code. -/
def Obligations.GrayCodeChangesOneBit : Prop :=
  ∀ a : Nat, ∃ k, gray a ^^^ gray (a + 1) = 2 ^ k

/-- R80: the cursor advance is `(i + 1) mod n`, stays in range, and its sum does not wrap the register. -/
def Obligations.CursorAdvanceIsModular : Prop :=
  ∀ i n w : Nat, 1 ≤ n → i < n → n < 2 ^ w →
    incMod i n = (i + 1) % n ∧ incMod i n < n ∧ i + 1 < 2 ^ w ∧ (n = 1 → incMod i n = i)

/-- R41, R42, R90: the blocks of an attached buffer lie inside it, in order and without overlap, the products are exact in `SIZE_W`
bits, and a buffer that fits the address space gives unreduced addresses. -/
def Obligations.BlocksTileTheBuffer : Prop :=
  ∀ (p : Params) (h : Handle) (base total block : Nat), 0 < block → block ≤ total → total < 2 ^ p.sizeW →
    let h' := attachBuffer base total block h
    1 ≤ h'.blockCount ∧ h'.blockCount ≤ total ∧ total - h'.blockCount * block < block ∧
    ∀ k, k < h'.blockCount →
      k * block < 2 ^ p.sizeW ∧ (k + 1) * block ≤ total ∧ (∀ j, j < k → (j + 1) * block ≤ k * block) ∧
      (base + total ≤ 2 ^ p.addrW → blkAddr p h' k = base + k * block)

/-! ### Results and responses -/

/-- R100: every command completes in one step with its response, whatever the state; a result other than Ok changes no handle field
and appends nothing, but for a START that ends in DeviceError, which has written `single_mode` and its register writes. -/
def Obligations.FailingCommandsChangeNothing : Prop :=
  ∀ (i : Instr) (s : State), ∃ t r, exec i s = .next t ∧ t.rsp = some r ∧
    (r.code ≠ 0 →
      t = { s with rsp := some r } ∨
      ∃ m, i = .start m ∧ r.code = 3 ∧ t.h = { s.h with singleMode := m } ∧
        t.trace = s.trace ++ startWrites s.params.dir m (intervalUs s.params.cfg s.h.blockSize s.trace.length))

/-- R141, R142, R143: which commands give which result, and exactly when. -/
def Obligations.ResultsHaveExactlyTheirCauses : Prop :=
  ∀ (i : Instr) (s t : State) (r : Response), exec i s = .next t → t.rsp = some r →
    (r.code = 1 ↔ ∃ base total block, i = .setbuf base total block ∧
      (base = 0 ∨ total = 0 ∨ block = 0 ∨ block > total)) ∧
    (r.code = 2 ↔
      (∃ base total block, i = .setbuf base total block ∧ ¬(base = 0 ∨ total = 0 ∨ block = 0 ∨ block > total) ∧
        (s.h.initialized = false ∨ s.h.active = true)) ∨
      (∃ m, i = .start m ∧ (s.h.initialized = false ∨ s.h.bufSet = false ∨
        (s.params.dir = .input ∧ s.h.bufferFull = true) ∨ (s.params.dir = .output ∧ s.h.bufferEmpty = true))) ∨
      (i = .release ∧ (s.h.bufSet = false ∨ (s.h.idxRel = s.h.idxGet ∧ s.h.limitOwned = false)))) ∧
    (r.code = 3 ↔ ∃ m, i = .start m ∧ s.h.initialized = true ∧ s.h.bufSet = true ∧
      (s.params.dir = .input → s.h.bufferFull = false) ∧ (s.params.dir = .output → s.h.bufferEmpty = false) ∧
      s.h.active = false ∧ s.periphActive = false ∧
      t.trace = s.trace ++ startWrites s.params.dir m (intervalUs s.params.cfg s.h.blockSize s.trace.length))

/-- R65: every legal command produces one response, with the signals that its command does not use at 0. -/
def Obligations.ResponseSignalsByCommand : Prop :=
  ∀ (i : Instr) (s : State), ∃ t r, exec i s = .next t ∧ t.rsp = some r ∧ r.illegal = false ∧
    ((∃ m, i = .init m) ∨ i = .uninit ∨ i = .stop → r = ⟨false, 0, false, 0, 0⟩) ∧
    ((∃ b n k, i = .setbuf b n k) ∨ (∃ m, i = .start m) ∨ i = .release →
      r.blkValid = false ∧ r.addr = 0 ∧ r.status = 0) ∧
    (i = .getblock → r.code = 0 ∧ r.status = 0 ∧ (r.blkValid = false → r.addr = 0) ∧ r.addr < 2 ^ s.params.addrW) ∧
    (i = .getstatus → r.code = 0 ∧ r.blkValid = false ∧ r.addr = 0 ∧ r.status.getLsbD 0 = s.h.active ∧
      r.status.getLsbD 1 = s.h.ovfUdf ∧ r.status.getLsbD 2 = s.h.eos)

/-- R125: in the Uninitialized state the commands answer as the table says, and only INIT changes the handle. -/
def Obligations.AnswersWhenUninitialized : Prop :=
  ∀ (i : Instr) (s : State), s.h = Handle.zero →
    ∃ t r, exec i s = .next t ∧ t.rsp = some r ∧
      match i with
      | .init m => r = ⟨false, 0, false, 0, 0⟩ ∧ t.h = { Handle.zero with initialized := true, cbEn := m } ∧
          lifecycle t.h = .idleNoBuffer
      | .setbuf base total block =>
          r = ⟨false, if base = 0 ∨ total = 0 ∨ block = 0 ∨ block > total then 1 else 2, false, 0, 0⟩ ∧ t.h = s.h
      | .start _ => r = ⟨false, 2, false, 0, 0⟩ ∧ t.h = s.h
      | .release => r = ⟨false, 2, false, 0, 0⟩ ∧ t.h = s.h
      | .uninit => r = ⟨false, 0, false, 0, 0⟩ ∧ t.h = s.h
      | .stop => r = ⟨false, 0, false, 0, 0⟩ ∧ t.h = s.h
      | .getblock => r = ⟨false, 0, false, 0, 0⟩ ∧ t.h = s.h
      | .getstatus => r = ⟨false, 0, false, 0, 0⟩ ∧ t.h = s.h

/-! ### Rules of the whole machine -/

/-- R26, R30: every step, whatever its input, keeps the invariants of the handle and the width of what is pending. -/
def Obligations.StepKeepsTheInvariants : Prop :=
  ∀ s t : State, s.Inv → step s = .next t → t.Inv

/-- The invariants hold after reset, for every instance. -/
def Obligations.ResetMeetsTheInvariants : Prop :=
  ∀ p : Params, (State.resetOf p).Inv

/-- R4, R34: no step changes the static parameters of the instance, and its direction among them. -/
def Obligations.StepKeepsTheParameters : Prop :=
  ∀ s t : State, step s = .next t → t.params = s.params

/-- R45, R53: no step removes or changes a mark of the downward trace, and GETBLOCK, RELEASE and GETSTATUS append none. -/
def Obligations.TraceOnlyGrows : Prop :=
  (∀ s t : State, step s = .next t → ∃ ms, t.trace = s.trace ++ ms) ∧
  (∀ (i : Instr) (s t : State), i = .getblock ∨ i = .release ∨ i = .getstatus → exec i s = .next t → t.trace = s.trace)

/-- R157 and the index check of R149: a step stops exactly when an event is due that signals data without a buffer, or with an
adopted index out of range, and then with that fault; and a step never refuses. That no step refuses is the model's choice: an
illegal word is a step that answers `rsp_illegal` (log 15, DEDUCED from R71), and a step with no input left is an idle one (log 5,
DESIGN CHOICE). So is the schedule that makes an event due (log 4, DESIGN CHOICE; log 6, DEDUCED). -/
def Obligations.StepStopsOnlyOnTheTwoFaults : Prop :=
  ∀ s : State,
    (∀ r, step s ≠ .refused r) ∧
    (step s = .fault .evtNoBuffer ↔
      ∃ rest e more, s.inputs = .deliver :: rest ∧ s.pending = e :: more ∧ s.h.initialized = true ∧
        e.ev.getLsbD 0 = true ∧ s.h.bufSet = false) ∧
    (step s = .fault .evtBadIndex ↔
      ∃ rest e more, s.inputs = .deliver :: rest ∧ s.pending = e :: more ∧ s.h.initialized = true ∧
        e.ev.getLsbD 0 = true ∧ s.h.bufSet = true ∧ s.params.prodAdvance = .adoptIndex ∧
        e.blkIndex ≥ s.h.blockCount)

/-- R162: the producer cursor is advanced by events only; the consumer cursors, the limit flag, the mode, the geometry and the
lifecycle bits are written by commands only; commands never set a sticky flag and events never clear one. -/
def Obligations.ContextsWriteOnlyTheirOwnFields : Prop :=
  (∀ (i : Instr) (s t : State), exec i s = .next t →
    (t.h.idxProd = s.h.idxProd ∨
      (t.h.idxProd = 0 ∧ ((∃ m, i = .init m) ∨ i = .uninit ∨ ∃ b n k, i = .setbuf b n k))) ∧
    (t.h.ovfUdf = true → s.h.ovfUdf = true) ∧ (t.h.eos = true → s.h.eos = true)) ∧
  (∀ (e : EventWord) (s t : State), handleEvent e s = .next t →
    t.h.idxGet = s.h.idxGet ∧ t.h.idxRel = s.h.idxRel ∧ t.h.limitOwned = s.h.limitOwned ∧
    t.h.singleMode = s.h.singleMode ∧ t.h.base = s.h.base ∧ t.h.blockSize = s.h.blockSize ∧
    t.h.blockCount = s.h.blockCount ∧ t.h.bufSet = s.h.bufSet ∧ t.h.initialized = s.h.initialized ∧
    t.h.cbEn = s.h.cbEn ∧ (s.h.ovfUdf = true → t.h.ovfUdf = true) ∧ (s.h.eos = true → t.h.eos = true) ∧
    (t.h.active = true → s.h.active = true))

/-- R23, R24, R184: a sticky flag that is set stays set through every step but GETSTATUS, INIT, UNINIT and reset, and a flag that is
clear becomes set only in an event step. -/
def Obligations.StickyFlagsLastUntilRead : Prop :=
  ∀ s t : State, step s = .next t →
    ((s.h.ovfUdf = true ∧ t.h.ovfUdf = false) ∨ (s.h.eos = true ∧ t.h.eos = false) →
      ∃ rest, s.inputs = .rst :: rest ∨
        ∃ c a i, s.inputs = .command c a :: rest ∧ decode (sampleCommand s.params c) = .ok i ∧
          (i = .getstatus ∨ i = .uninit ∨ ∃ m, i = .init m)) ∧
    ((s.h.ovfUdf = false ∧ t.h.ovfUdf = true) ∨ (s.h.eos = false ∧ t.h.eos = true) → eventDue s = true)

/-- R29: every command is accepted in every lifecycle state, and which state follows which command or event, in states that meet the
invariants. -/
def Obligations.LifecycleTransitions : Prop :=
  ∀ s : State, HandleInv s.params s.h →
    (∀ i : Instr, ∃ t r, exec i s = .next t ∧ t.rsp = some r ∧
      match i with
      | .init _ => lifecycle t.h = .idleNoBuffer
      | .uninit => lifecycle t.h = .uninitialized
      | .setbuf _ _ _ =>
          if r.code = 0 then
            (lifecycle s.h = .idleNoBuffer ∨ lifecycle s.h = .idleAttached) ∧ lifecycle t.h = .idleAttached
          else lifecycle t.h = lifecycle s.h
      | .start m =>
          if r.code = 0 ∧ lifecycle s.h = .idleAttached then
            lifecycle t.h = if m = true then .activeSingle else .activeContinuous
          else lifecycle t.h = lifecycle s.h
      | .stop => lifecycle t.h = if s.h.active = true then .idleAttached else lifecycle s.h
      | .getblock => lifecycle t.h = lifecycle s.h
      | .release => lifecycle t.h = lifecycle s.h
      | .getstatus => lifecycle t.h = lifecycle s.h) ∧
    (∀ (e : EventWord) (t : State), handleEvent e s = .next t →
      lifecycle t.h = if lifecycle s.h = .activeSingle then .idleAttached else lifecycle s.h)

/-! ### The blocks the consumer holds (spec/10_state.md R30 item 9, spec/20_memory.md R56, spec/42_block_commands.md R126) -/

/-- R30 item 9: a successful GETBLOCK adds 1 to `held`, a successful RELEASE subtracts 1, a successful SETBUF makes it 0, an event
leaves it; RELEASE succeeds exactly when something is held. -/
def Obligations.HeldBlocksAreCounted : Prop :=
  ∀ s : State, HandleInv s.params s.h →
    (∀ t r, exec .getblock s = .next t → t.rsp = some r →
      held t.h = if r.blkValid = true then held s.h + 1 else held s.h) ∧
    (∀ t r, exec .release s = .next t → t.rsp = some r →
      (r.code = 0 ↔ s.h.bufSet = true ∧ 0 < held s.h) ∧ (r.code = 0 → held t.h + 1 = held s.h) ∧
      (r.code ≠ 0 → held t.h = held s.h)) ∧
    (∀ b n k t r, exec (.setbuf b n k) s = .next t → t.rsp = some r →
      held t.h = if r.code = 0 then 0 else held s.h) ∧
    (∀ e t, handleEvent e s = .next t → held t.h = held s.h)

/-- R56: GETBLOCK hands out a block that the application did not own and owns afterwards; RELEASE gives back the oldest block it
owns, which it does not own afterwards. -/
def Obligations.OwnershipPassesWithTheBlock : Prop :=
  ∀ s : State, HandleInv s.params s.h →
    (∀ t r, exec .getblock s = .next t → t.rsp = some r → r.blkValid = true →
      r.addr = blkAddr s.params s.h s.h.idxGet ∧ ¬ appOwns s.h s.h.idxGet ∧
      ∀ k, appOwns t.h k ↔ appOwns s.h k ∨ k = s.h.idxGet) ∧
    (∀ t r, exec .release s = .next t → t.rsp = some r → r.code = 0 →
      appOwns s.h s.h.idxRel ∧ ∀ k, appOwns t.h k ↔ appOwns s.h k ∧ k ≠ s.h.idxRel)

/-- R126: with no RELEASE, as many GETBLOCK commands succeed as blocks are free, and in the input direction no more than the producer
is ahead (`fresh`: none when the buffer is empty, else the way round the ring from the acquire cursor to the producer cursor, a full
lap when they are equal). They hand out consecutive blocks, each adds one to the blocks held, and the next GETBLOCK is refused; where
`fresh` reaches the free blocks, every block is then held and the limit flag set. -/
def Obligations.BackpressureAtAllBlocksHeld : Prop :=
  ∀ s : State, HandleInv s.params s.h → s.h.bufSet = true →
    let free := s.h.blockCount - held s.h
    let fresh :=
      if s.params.dir = .output then free
      else if s.h.bufferEmpty = true then 0
      else (s.h.idxProd + s.h.blockCount - s.h.idxGet - 1) % s.h.blockCount + 1
    (∀ j, j < min free fresh → ∃ u v, repeatExec .getblock j s = .next u ∧ exec .getblock u = .next v ∧
      v.rsp = some ⟨false, 0, true, blkAddr s.params s.h ((s.h.idxGet + j) % s.h.blockCount), 0⟩) ∧
    ∃ t, repeatExec .getblock (min free fresh) s = .next t ∧ held t.h = held s.h + min free fresh ∧
      exec .getblock t = .next { t with rsp := some ⟨false, 0, false, 0, 0⟩ } ∧
      (free ≤ fresh → held t.h = s.h.blockCount ∧ t.h.limitOwned = true)

/-- R123, R126, output direction: from a consumer that holds every block, one RELEASE restores capacity for exactly one more
GETBLOCK. -/
def Obligations.OneReleaseRestoresOneBlock : Prop :=
  ∀ s : State, HandleInv s.params s.h → s.params.dir = .output → s.h.limitOwned = true →
    ∃ t u r, exec .release s = .next t ∧ exec .getblock t = .next u ∧ u.rsp = some r ∧
      r = ⟨false, 0, true, blkAddr s.params s.h s.h.idxRel, 0⟩ ∧ u.h.limitOwned = true ∧
      exec .getblock u = .next { u with rsp := some ⟨false, 0, false, 0, 0⟩ }

/-- R149, R151: under `SelfIncrement` in a Continuous session, `k` data events with no consumer activity move the producer cursor
`k` places round the ring, and the sticky flag is set from the event at which the cursor first meets the release cursor: the
`N`-th when it starts there. -/
def Obligations.OverrunAtTheFirstLap : Prop :=
  ∀ (s : State) (e : EventWord) (k : Nat), HandleInv s.params s.h → s.h.bufSet = true →
    s.params.prodAdvance = .selfIncrement → s.h.singleMode = false → e.ev.getLsbD 0 = true →
    let lap := (s.h.idxRel + s.h.blockCount - s.h.idxProd - 1) % s.h.blockCount + 1
    ∃ t, repeatEvent e k s = .next t ∧ t.h.idxProd = (s.h.idxProd + k) % s.h.blockCount ∧
      (t.h.ovfUdf = true ↔ s.h.ovfUdf = true ∨ lap ≤ k) ∧
      (s.params.dir = .input → (t.h.bufferFull = true ↔ s.h.bufferFull = true ∨ lap ≤ k)) ∧
      (s.h.idxProd = s.h.idxRel → lap = s.h.blockCount)

/-- R183: with a one-block buffer every cursor is 0, every data event is a catch, and every successful GETBLOCK sets the limit flag
and, in the input direction, the empty flag. -/
def Obligations.OneBlockBuffers : Prop :=
  ∀ s : State, HandleInv s.params s.h → s.h.blockCount = 1 →
    s.h.idxGet = 0 ∧ s.h.idxRel = 0 ∧ s.h.idxProd = 0 ∧
    (∀ e t, e.ev.getLsbD 0 = true → handleEvent e s = .next t →
      (s.params.dir = .input → t.h.bufferFull = true) ∧ (s.params.dir = .output → t.h.bufferEmpty = true) ∧
      (s.h.singleMode = false → t.h.ovfUdf = true)) ∧
    (∀ t r, exec .getblock s = .next t → t.rsp = some r → r.blkValid = true →
      t.h.limitOwned = true ∧ (s.params.dir = .input → t.h.bufferEmpty = true))

/-- R53: STOP, UNINIT and INIT issued twice leave the handle as issued once, a second STOP changes nothing at all, and a second
GETSTATUS with no event between returns both sticky flags as 0. -/
def Obligations.RepeatedCommandsAreIdempotent : Prop :=
  ∀ (i : Instr) (s t : State), exec i s = .next t →
    (i = .uninit ∨ (∃ m, i = .init m) → ∃ u, exec i t = .next u ∧ u.h = t.h) ∧
    (i = .stop → exec i t = .next t) ∧
    (i = .getstatus → ∃ u r, exec i t = .next u ∧ u.rsp = some r ∧ r.status.getLsbD 0 = s.h.active ∧
      r.status.getLsbD 1 = false ∧ r.status.getLsbD 2 = false)

/-! ### The environment (spec/60_exceptions.md R159, R160, R163) and hazards (spec/70_reset_and_hazards.md) -/

/-- R159: what each step does to the environment budget `B`, exactly: the cap is `min(B, ENV_LATE_MAX)`, and unbounded capped is
`ENV_LATE_MAX`; spending subtracts 1 from a number and leaves unbounded. A START that writes its registers sets `B`; a STOP that finds
the session active and an UNINIT cap it; an event spends one, and one that ends the session then caps what is left; every other
command leaves it. That 0 stays 0, and the order of an event that does both, are the model's choice (log 11, DEDUCED). -/
def Obligations.BudgetFollowsTheSession : Prop :=
  (∀ n k, (Budget.num n).cap k = .num (min n k)) ∧ (∀ k, Budget.unbounded.cap k = .num k) ∧
  (∀ n, (Budget.num n).spend = .num (n - 1)) ∧ Budget.unbounded.spend = .unbounded ∧
  ∀ (s t : State),
    (∀ m r, exec (.start m) s = .next t → t.rsp = some r → t.trace ≠ s.trace →
      t.budget = if r.code = 0 then .unbounded else .num s.params.envLateMax) ∧
    (∀ i, exec i s = .next t → (i = .stop ∧ s.h.active = true) ∨ i = .uninit →
      (s.budget = .unbounded → t.budget = .num s.params.envLateMax) ∧
      ∀ n, s.budget = .num n → t.budget = .num (min n s.params.envLateMax)) ∧
    (∀ e, handleEvent e s = .next t → s.h.active = true → t.h.active = false →
      (s.budget = .unbounded → t.budget = .num s.params.envLateMax) ∧
      ∀ n, s.budget = .num n → t.budget = .num (min (n - 1) s.params.envLateMax)) ∧
    (∀ e, handleEvent e s = .next t → t.h.active = s.h.active →
      (s.budget = .unbounded → t.budget = .unbounded) ∧ ∀ n, s.budget = .num n → t.budget = .num (n - 1)) ∧
    (∀ i, exec i s = .next t → i ≠ .uninit → t.trace = s.trace ∨ (∃ m, i = .init m) ∨ (∃ b n k, i = .setbuf b n k) →
      t.budget = s.budget)

/-- R159: under `ENV-QUIET`, a step that begins no session leaves a numeric budget no larger, and every event it delivers uses one
of it up: so at most `B` events are delivered until the next START that writes its registers. -/
def Obligations.QuietEnvironmentBoundsLateEvents : Prop :=
  ∀ (s t : State) (n : Nat), s.budget = .num n → EnvQuiet s → step s = .next t →
    (∀ c a rest m, s.inputs = .command c a :: rest → decode (sampleCommand s.params c) = .ok (.start m) →
      t.trace = s.trace) →
    t.budget.atMost n ∧ (eventDue s = true → 0 < n ∧ t.budget.atMost (n - 1))

/-- R160: the interval is the formula of its kind wherever the divisors are not 0. (The conversion to frames is the spec's from
general knowledge, log 12.) -/
def Obligations.IntervalFormula : Prop :=
  ∀ (source : Option String) (device blockSize draw : Nat),
    (∀ rate bits channels, rate ≠ 0 → channels * (bits / 8) ≠ 0 →
      intervalUs ⟨.audio rate bits channels, source, device⟩ blockSize draw =
        (1000000 * (blockSize / (channels * (bits / 8)))) / rate) ∧
    (∀ width height rate color, rate ≠ 0 →
      intervalUs ⟨.frame width height rate color, source, device⟩ blockSize draw = 1000000 / rate)

/-- R160: no handle field, no response, no budget and no callback depends on the configuration, whatever interval it gives: two
instances that differ in `CFG` alone agree there after every command, and after every event, or fault alike. -/
def Obligations.ConfigurationIsInvisible : Prop :=
  (∀ (i : Instr) (s : State) (c : ChannelCfg), ∃ t t',
    exec i s = .next t ∧ exec i { s with params := { s.params with cfg := c } } = .next t' ∧
    t'.h = t.h ∧ t'.rsp = t.rsp ∧ t'.budget = t.budget ∧ t'.evt = t.evt ∧ t'.trace.length = t.trace.length) ∧
  (∀ (e : EventWord) (s : State) (c : ChannelCfg),
    (∀ t, handleEvent e s = .next t →
      handleEvent e { s with params := { s.params with cfg := c } } = .next { t with params := { t.params with cfg := c } }) ∧
    ∀ f, handleEvent e s = .fault f → handleEvent e { s with params := { s.params with cfg := c } } = .fault f)

/-- R174: in the output direction GETBLOCK does not look at the producer cursor: changing it changes nothing else. -/
def Obligations.OutputGetblockIgnoresTheProducer : Prop :=
  ∀ (s : State) (prod : Nat), s.params.dir = .output →
    ∃ t, exec .getblock s = .next t ∧
      exec .getblock { s with h := { s.h with idxProd := prod } } = .next { t with h := { t.h with idxProd := prod } }

/-- R181: after a catch START is refused until the consumer acts. From a caught state START is acceptable after a successful RELEASE
and, in the input direction, after a successful GETBLOCK or a SETBUF that is reissued; after every other command (GETSTATUS, STOP,
START itself, a failing one, an output GETBLOCK or SETBUF, and INIT or UNINIT, which leave no buffer) and after every event it is
refused, and the state is still a caught one unless INIT or UNINIT took the buffer away. -/
def Obligations.RestartNeedsTheConsumer : Prop :=
  ∀ s : State, caught s →
    (∀ (i : Instr) (t : State) (r : Response), exec i s = .next t → t.rsp = some r →
      let helps := r.code = 0 ∧ (i = .release ∨
        (s.params.dir = .input ∧ ((i = .getblock ∧ r.blkValid = true) ∨ ∃ b n k, i = .setbuf b n k)))
      (helps → ∀ m, ∃ u r', exec (.start m) t = .next u ∧ u.rsp = some r' ∧ r'.code ≠ 2) ∧
      (¬ helps → ∀ m, exec (.start m) t = .next { t with rsp := some ⟨false, 2, false, 0, 0⟩ }) ∧
      (¬ helps → i ≠ .uninit → (∀ m, i ≠ .init m) → caught t)) ∧
    (∀ (e : EventWord) (t : State), handleEvent e s = .next t →
      caught t ∧ ∀ m, exec (.start m) t = .next { t with rsp := some ⟨false, 2, false, 0, 0⟩ })

/-- R180: INIT while Active forgets the session without stopping the peripheral: it makes no disabling write, a following STOP writes
nothing, and the next data-ready event is the fault EvtNoBuffer. -/
def Obligations.InitWhileActiveLeavesThePeripheralRunning : Prop :=
  ∀ (m : Bool) (s t : State), s.h.active = true → exec (.init m) s = .next t →
    t.h.active = false ∧ t.h.bufSet = false ∧ t.budget = s.budget ∧
    t.trace = s.trace ++ [.write .config (.cfg s.params.cfg), .barrier, .write .irqEnable (.sym .enable), .barrier] ∧
    exec .stop t = .next { t with rsp := some ⟨false, 0, false, 0, 0⟩ } ∧
    ∀ e, e.ev.getLsbD 0 = true → handleEvent e t = .fault .evtNoBuffer

/-- R2, R163: a step of one channel's instance leaves the others as they are, is the step of that instance alone, and steps of
different channels commute. -/
def Obligations.ChannelsShareNothing : Prop :=
  (∀ (c : Channel) (y z : System), System.step c y = .next z →
    step (y.get c) = .next (z.get c) ∧ ∀ d, d ≠ c → z.get d = y.get d) ∧
  (∀ (c d : Channel) (y z z' : System), c ≠ d → System.step c y = .next z → System.step d z = .next z' →
    ∃ w, System.step d y = .next w ∧ System.step c w = .next z')
end

