-- ==== Sys2Proof/Laws/Cursor.lean ====
section
/-! SUPPORT. The cursor advance and the index comparator, as later proofs use them. -/

namespace Sys2Proof.Machine

theorem gray_div_two (a : Nat) : gray a / 2 = gray (a / 2) := by
  apply Nat.eq_of_testBit_eq
  intro i
  simp [gray, Nat.testBit_div_two, Nat.testBit_xor, Nat.testBit_shiftRight, Nat.add_comm]

theorem gray_testBit_zero (a : Nat) : (gray a).testBit 0 = (a.testBit 0 ^^ (a / 2).testBit 0) := by
  rw [gray, Nat.testBit_xor, Nat.testBit_shiftRight, Nat.testBit_div_two, Nat.zero_add, Nat.add_zero]

/-- An index is 0 only with code 0. -/
theorem gray_eq_zero {a : Nat} (h : gray a = 0) : a = 0 := by
  induction a using Nat.strongRecOn with
  | _ a ih =>
    by_cases ha : a = 0
    · exact ha
    · have h2 : a / 2 = 0 := ih (a / 2) (by omega) (by rw [← gray_div_two, h])
      have h0 := gray_testBit_zero a
      rw [h, h2] at h0
      simp at h0
      omega

/-- The gray code tells indices apart (the fact behind spec/40_comparators_and_flags.md R83). -/
theorem gray_inj {a b : Nat} (h : gray a = gray b) : a = b := by
  induction a using Nat.strongRecOn generalizing b with
  | _ a ih =>
    by_cases ha : a = 0
    · subst ha
      exact (gray_eq_zero (by rw [← h]; rfl)).symm
    · have h2 : a / 2 = b / 2 := ih (a / 2) (by omega) (by rw [← gray_div_two, ← gray_div_two, h])
      have h0 : (a.testBit 0 ^^ (a / 2).testBit 0) = (b.testBit 0 ^^ (b / 2).testBit 0) := by
        rw [← gray_testBit_zero, ← gray_testBit_zero, h]
      rw [h2] at h0
      simp at h0
      omega

/-- The comparator is equality of indices (R81). -/
@[simp] theorem idxEq_eq (a b : Nat) : idxEq a b = decide (a = b) := by
  unfold idxEq
  by_cases h : a = b
  · simp [h]
  · simp only [h, decide_false, beq_eq_false_iff_ne, ne_eq]
    exact fun hg => h (gray_inj hg)

@[simp] theorem catchUp_eq (p r : Nat) : catchUp p r = decide (p = r) := idxEq_eq p r
@[simp] theorem drained_eq (g p : Nat) : drained g p = decide (g = p) := idxEq_eq g p
@[simp] theorem parity_eq (g r : Nat) : parity g r = decide (g = r) := idxEq_eq g r

@[simp] theorem ovfUdfFire_eq (ready : Bool) (p r : Nat) (single : Bool) :
    ovfUdfFire ready p r single = (ready && decide (p = r) && !single) := by simp [ovfUdfFire]

@[simp] theorem nothingHeld_eq (h : Handle) :
    nothingHeld h = (decide (h.idxRel = h.idxGet) && !h.limitOwned) := by simp [nothingHeld]

/-- An advanced cursor stays in range (R80). -/
theorem incMod_lt {i n : Nat} (h : i < n) : incMod i n < n := by
  unfold incMod; split <;> omega

end Sys2Proof.Machine
end

