-- ==== Sys2Proof/Laws/State.lean ====
section
/-! SUPPORT. One lemma for each field of State and each update, true by unfolding, so that no proof unfolds a record update. -/

namespace Sys2Proof.Machine

variable (s : State)

@[simp] theorem State.setHandle_params (h : Handle) : (s.setHandle h).params = s.params := rfl
@[simp] theorem State.setHandle_h (h : Handle) : (s.setHandle h).h = h := rfl
@[simp] theorem State.setHandle_pending (h : Handle) : (s.setHandle h).pending = s.pending := rfl
@[simp] theorem State.setHandle_budget (h : Handle) : (s.setHandle h).budget = s.budget := rfl
@[simp] theorem State.setHandle_trace (h : Handle) : (s.setHandle h).trace = s.trace := rfl
@[simp] theorem State.setHandle_periphActive (h : Handle) : (s.setHandle h).periphActive = s.periphActive := rfl
@[simp] theorem State.setHandle_rsp (h : Handle) : (s.setHandle h).rsp = s.rsp := rfl
@[simp] theorem State.setHandle_evt (h : Handle) : (s.setHandle h).evt = s.evt := rfl
@[simp] theorem State.setHandle_inputs (h : Handle) : (s.setHandle h).inputs = s.inputs := rfl

@[simp] theorem State.emit_params (ms : List Mark) : (s.emit ms).params = s.params := rfl
@[simp] theorem State.emit_h (ms : List Mark) : (s.emit ms).h = s.h := rfl
@[simp] theorem State.emit_pending (ms : List Mark) : (s.emit ms).pending = s.pending := rfl
@[simp] theorem State.emit_budget (ms : List Mark) : (s.emit ms).budget = s.budget := rfl
@[simp] theorem State.emit_trace (ms : List Mark) : (s.emit ms).trace = s.trace ++ ms := rfl
@[simp] theorem State.emit_periphActive (ms : List Mark) : (s.emit ms).periphActive = s.periphActive := rfl
@[simp] theorem State.emit_rsp (ms : List Mark) : (s.emit ms).rsp = s.rsp := rfl
@[simp] theorem State.emit_evt (ms : List Mark) : (s.emit ms).evt = s.evt := rfl
@[simp] theorem State.emit_inputs (ms : List Mark) : (s.emit ms).inputs = s.inputs := rfl

@[simp] theorem State.answer_params (r : Response) : (s.answer r).params = s.params := rfl
@[simp] theorem State.answer_h (r : Response) : (s.answer r).h = s.h := rfl
@[simp] theorem State.answer_pending (r : Response) : (s.answer r).pending = s.pending := rfl
@[simp] theorem State.answer_budget (r : Response) : (s.answer r).budget = s.budget := rfl
@[simp] theorem State.answer_trace (r : Response) : (s.answer r).trace = s.trace := rfl
@[simp] theorem State.answer_periphActive (r : Response) : (s.answer r).periphActive = s.periphActive := rfl
@[simp] theorem State.answer_rsp (r : Response) : (s.answer r).rsp = some r := rfl
@[simp] theorem State.answer_evt (r : Response) : (s.answer r).evt = s.evt := rfl
@[simp] theorem State.answer_inputs (r : Response) : (s.answer r).inputs = s.inputs := rfl

@[simp] theorem State.finish_params (r : Result) : (s.finish r).params = s.params := rfl
@[simp] theorem State.finish_h (r : Result) : (s.finish r).h = s.h := rfl
@[simp] theorem State.finish_pending (r : Result) : (s.finish r).pending = s.pending := rfl
@[simp] theorem State.finish_budget (r : Result) : (s.finish r).budget = s.budget := rfl
@[simp] theorem State.finish_trace (r : Result) : (s.finish r).trace = s.trace := rfl
@[simp] theorem State.finish_periphActive (r : Result) : (s.finish r).periphActive = s.periphActive := rfl
@[simp] theorem State.finish_rsp (r : Result) : (s.finish r).rsp = some (resultResponse r) := rfl
@[simp] theorem State.finish_evt (r : Result) : (s.finish r).evt = s.evt := rfl
@[simp] theorem State.finish_inputs (r : Result) : (s.finish r).inputs = s.inputs := rfl

@[simp] theorem State.setBudget_params (b : Budget) : (s.setBudget b).params = s.params := rfl
@[simp] theorem State.setBudget_h (b : Budget) : (s.setBudget b).h = s.h := rfl
@[simp] theorem State.setBudget_pending (b : Budget) : (s.setBudget b).pending = s.pending := rfl
@[simp] theorem State.setBudget_budget (b : Budget) : (s.setBudget b).budget = b := rfl
@[simp] theorem State.setBudget_trace (b : Budget) : (s.setBudget b).trace = s.trace := rfl
@[simp] theorem State.setBudget_periphActive (b : Budget) : (s.setBudget b).periphActive = s.periphActive := rfl
@[simp] theorem State.setBudget_rsp (b : Budget) : (s.setBudget b).rsp = s.rsp := rfl
@[simp] theorem State.setBudget_evt (b : Budget) : (s.setBudget b).evt = s.evt := rfl
@[simp] theorem State.setBudget_inputs (b : Budget) : (s.setBudget b).inputs = s.inputs := rfl

@[simp] theorem State.capBudget_params : (s.capBudget).params = s.params := rfl
@[simp] theorem State.capBudget_h : (s.capBudget).h = s.h := rfl
@[simp] theorem State.capBudget_pending : (s.capBudget).pending = s.pending := rfl
@[simp] theorem State.capBudget_budget : (s.capBudget).budget = s.budget.cap s.params.envLateMax := rfl
@[simp] theorem State.capBudget_trace : (s.capBudget).trace = s.trace := rfl
@[simp] theorem State.capBudget_periphActive : (s.capBudget).periphActive = s.periphActive := rfl
@[simp] theorem State.capBudget_rsp : (s.capBudget).rsp = s.rsp := rfl
@[simp] theorem State.capBudget_evt : (s.capBudget).evt = s.evt := rfl
@[simp] theorem State.capBudget_inputs : (s.capBudget).inputs = s.inputs := rfl

@[simp] theorem State.assertReset_params : (s.assertReset).params = s.params := rfl
@[simp] theorem State.assertReset_h : (s.assertReset).h = Handle.zero := rfl
@[simp] theorem State.assertReset_pending : (s.assertReset).pending = [] := rfl
@[simp] theorem State.assertReset_budget : (s.assertReset).budget = .num 0 := rfl
@[simp] theorem State.assertReset_trace : (s.assertReset).trace = s.trace := rfl
@[simp] theorem State.assertReset_periphActive : (s.assertReset).periphActive = s.periphActive := rfl
@[simp] theorem State.assertReset_rsp : (s.assertReset).rsp = s.rsp := rfl
@[simp] theorem State.assertReset_evt : (s.assertReset).evt = s.evt := rfl
@[simp] theorem State.assertReset_inputs : (s.assertReset).inputs = s.inputs := rfl

@[simp] theorem acknowledge_params : (acknowledge s).params = s.params := rfl
@[simp] theorem acknowledge_h : (acknowledge s).h = s.h := rfl
@[simp] theorem acknowledge_pending : (acknowledge s).pending = s.pending := rfl
@[simp] theorem acknowledge_budget : (acknowledge s).budget = s.budget := rfl
@[simp] theorem acknowledge_trace : (acknowledge s).trace = s.trace ++ [.write .irqClear (.sym .ack)] := rfl
@[simp] theorem acknowledge_periphActive : (acknowledge s).periphActive = s.periphActive := rfl
@[simp] theorem acknowledge_rsp : (acknowledge s).rsp = s.rsp := rfl
@[simp] theorem acknowledge_evt : (acknowledge s).evt = s.evt := rfl
@[simp] theorem acknowledge_inputs : (acknowledge s).inputs = s.inputs := rfl

@[simp] theorem raiseCompletion_params (e : EventWord) : (raiseCompletion e s).params = s.params := rfl
@[simp] theorem raiseCompletion_h (e : EventWord) : (raiseCompletion e s).h = s.h := rfl
@[simp] theorem raiseCompletion_pending (e : EventWord) : (raiseCompletion e s).pending = s.pending ++ [sampleEvent s.params e] := rfl
@[simp] theorem raiseCompletion_budget (e : EventWord) : (raiseCompletion e s).budget = s.budget := rfl
@[simp] theorem raiseCompletion_trace (e : EventWord) : (raiseCompletion e s).trace = s.trace := rfl
@[simp] theorem raiseCompletion_periphActive (e : EventWord) : (raiseCompletion e s).periphActive = s.periphActive := rfl
@[simp] theorem raiseCompletion_rsp (e : EventWord) : (raiseCompletion e s).rsp = s.rsp := rfl
@[simp] theorem raiseCompletion_evt (e : EventWord) : (raiseCompletion e s).evt = s.evt := rfl
@[simp] theorem raiseCompletion_inputs (e : EventWord) : (raiseCompletion e s).inputs = s.inputs := rfl

@[simp] theorem openStep_params (rest : List Input) : (openStep s rest).params = s.params := rfl
@[simp] theorem openStep_h (rest : List Input) : (openStep s rest).h = s.h := rfl
@[simp] theorem openStep_pending (rest : List Input) : (openStep s rest).pending = s.pending := rfl
@[simp] theorem openStep_budget (rest : List Input) : (openStep s rest).budget = s.budget := rfl
@[simp] theorem openStep_trace (rest : List Input) : (openStep s rest).trace = s.trace := rfl
@[simp] theorem openStep_periphActive (rest : List Input) : (openStep s rest).periphActive = s.periphActive := rfl
@[simp] theorem openStep_rsp (rest : List Input) : (openStep s rest).rsp = none := rfl
@[simp] theorem openStep_evt (rest : List Input) : (openStep s rest).evt = none := rfl
@[simp] theorem openStep_inputs (rest : List Input) : (openStep s rest).inputs = rest := rfl

/-- Handling an event changes neither the parameters nor what waits at the ports. -/
@[simp] theorem spendEvent_params : (spendEvent s).params = s.params := by
  unfold spendEvent; dsimp only; split <;> rfl

@[simp] theorem spendEvent_h : (spendEvent s).h = s.h := by
  unfold spendEvent; dsimp only; split <;> rfl

@[simp] theorem spendEvent_pending : (spendEvent s).pending = s.pending := by
  unfold spendEvent; dsimp only; split <;> rfl

@[simp] theorem spendEvent_trace : (spendEvent s).trace = s.trace := by
  unfold spendEvent; dsimp only; split <;> rfl

@[simp] theorem spendEvent_periphActive : (spendEvent s).periphActive = s.periphActive := by
  unfold spendEvent; dsimp only; split <;> rfl

@[simp] theorem spendEvent_rsp : (spendEvent s).rsp = s.rsp := by
  unfold spendEvent; dsimp only; split <;> rfl

@[simp] theorem spendEvent_evt : (spendEvent s).evt = s.evt := by
  unfold spendEvent; dsimp only; split <;> rfl

@[simp] theorem spendEvent_inputs : (spendEvent s).inputs = s.inputs := by
  unfold spendEvent; dsimp only; split <;> rfl

theorem spendEvent_budget : (spendEvent s).budget =
    if s.h.active && s.h.singleMode then s.budget.spend.cap s.params.envLateMax else s.budget.spend := by
  unfold spendEvent; dsimp only
  split <;> simp_all

variable (mask : EventMask)

@[simp] theorem callback_params : (callback mask s).params = s.params := by unfold callback; split <;> rfl
@[simp] theorem callback_h : (callback mask s).h = s.h := by unfold callback; split <;> rfl
@[simp] theorem callback_pending : (callback mask s).pending = s.pending := by unfold callback; split <;> rfl
@[simp] theorem callback_budget : (callback mask s).budget = s.budget := by unfold callback; split <;> rfl
@[simp] theorem callback_trace : (callback mask s).trace = s.trace := by unfold callback; split <;> rfl
@[simp] theorem callback_periphActive : (callback mask s).periphActive = s.periphActive := by unfold callback; split <;> rfl
@[simp] theorem callback_rsp : (callback mask s).rsp = s.rsp := by unfold callback; split <;> rfl
@[simp] theorem callback_inputs : (callback mask s).inputs = s.inputs := by unfold callback; split <;> rfl

theorem callback_evt : (callback mask s).evt = if s.h.cbEn && mask != 0 then some mask else s.evt := by
  unfold callback; split <;> rfl

variable (e : EventWord) (fire : Bool)

@[simp] theorem finishEvent_params : (finishEvent e fire s).params = s.params := by simp [finishEvent]
@[simp] theorem finishEvent_h : (finishEvent e fire s).h = endSingle (noteEos e s.h) := by simp [finishEvent]
@[simp] theorem finishEvent_pending : (finishEvent e fire s).pending = s.pending := by simp [finishEvent]
@[simp] theorem finishEvent_trace : (finishEvent e fire s).trace = s.trace := by simp [finishEvent]
@[simp] theorem finishEvent_periphActive : (finishEvent e fire s).periphActive = s.periphActive := by simp [finishEvent]
@[simp] theorem finishEvent_rsp : (finishEvent e fire s).rsp = s.rsp := by simp [finishEvent]
@[simp] theorem finishEvent_inputs : (finishEvent e fire s).inputs = s.inputs := by simp [finishEvent]
@[simp] theorem finishEvent_budget : (finishEvent e fire s).budget = (spendEvent s).budget := by simp [finishEvent]

end Sys2Proof.Machine
end

