-- ==== Sys2Proof/Laws/Ops.lean ====
section
/-! SUPPORT. What each shared operation and each meaning can do, said once: the lemmas that later proofs cite. -/

namespace Sys2Proof.Machine

@[simp] theorem Budget.cap_num (n k : Nat) : (Budget.num n).cap k = .num (min n k) := rfl
@[simp] theorem Budget.cap_unbounded (k : Nat) : Budget.unbounded.cap k = .num k := rfl
@[simp] theorem Budget.spend_num (n : Nat) : (Budget.num n).spend = .num (n - 1) := rfl
@[simp] theorem Budget.spend_unbounded : Budget.unbounded.spend = .unbounded := rfl

/-- The advanced producer cursor, when there is one (spec/60_exceptions.md R149). -/
theorem producerAdvance_ok {p : Params} {e : EventWord} {h : Handle} {q : Nat} (hq : producerAdvance p e h = .ok q) :
    h.bufSet = true ∧
      ((p.prodAdvance = .selfIncrement ∧ q = incMod h.idxProd h.blockCount) ∨
       (p.prodAdvance = .adoptIndex ∧ e.blkIndex < h.blockCount ∧ q = e.blkIndex)) := by
  unfold producerAdvance at hq
  split at hq
  · rename_i hb
    split at hq
    · rename_i hp; simp_all
    · rename_i hp
      split at hq <;> simp_all
  · cases hq

/-- The handle after steps 2a to 2c of the handler, field by field (R149 to R151). -/
theorem takeData_eq (d : Dir) (q : Nat) (h : Handle) :
    takeData d q h =
      { h with
        idxProd := q
        bufferEmpty := (if d = .input then false else (h.bufferEmpty || decide (q = h.idxRel)))
        bufferFull := (if d = .input then (h.bufferFull || decide (q = h.idxRel)) else false)
        ovfUdf := (h.ovfUdf || (decide (q = h.idxRel) && !h.singleMode)) } := by
  cases d <;> by_cases hq : q = h.idxRel <;> cases hs : h.singleMode <;>
    simp [takeData, noteData, noteCatch, hq, hs]

/-- The handle after steps 3 and 4 of the handler (R152, R153). -/
theorem endSingle_noteEos_eq (e : EventWord) (h : Handle) :
    endSingle (noteEos e h) =
      { h with eos := (h.eos || endOfStream e), active := (h.active && !h.singleMode) } := by
  rcases h with ⟨_, _, _, _, _, _, _, _, _, _, single, _, _, _, _, _⟩
  cases he : endOfStream e <;> cases single <;> simp [endSingle, noteEos, he]

/-- The handler answers next in two ways, and no other (R155). -/
theorem handleEvent_next {e : EventWord} {s t : State} (h : handleEvent e s = .next t) :
    (dataReady e = false ∧ t = finishEvent e false (acknowledge s)) ∨
    (dataReady e = true ∧ ∃ q, producerAdvance s.params e s.h = .ok q ∧
      t = finishEvent e (ovfUdfFire true q s.h.idxRel s.h.singleMode)
        ((acknowledge s).setHandle (takeData s.params.dir q s.h))) := by
  unfold handleEvent at h
  simp only [acknowledge_params, acknowledge_h] at h
  split at h
  · rename_i hd
    cases hq : producerAdvance s.params e s.h with
    | error f => rw [hq] at h; cases h
    | ok q =>
      rw [hq] at h
      exact .inr ⟨hd, q, rfl, (by simpa using h.symm)⟩
  · rename_i hd
    exact .inl ⟨by simpa using hd, by simpa using h.symm⟩

/-- The handler never refuses. -/
theorem handleEvent_not_refused (e : EventWord) (s : State) (r : Refusal) : handleEvent e s ≠ .refused r := by
  unfold handleEvent
  dsimp only
  split
  · split <;> simp
  · simp

/-- START answers next in four ways, and no other (spec/41_lifecycle_commands.md R105 to R108). -/
theorem execStart_cases (m : Bool) (s : State) :
    (startRefused s.params.dir s.h = true ∧ execStart m s = .next (s.finish .invalidState)) ∨
    (startRefused s.params.dir s.h = false ∧ s.h.active = true ∧ execStart m s = .next (s.finish .ok)) ∨
    (startRefused s.params.dir s.h = false ∧ s.h.active = false ∧ execStart m s = .next (startSession m s)) := by
  unfold execStart
  cases startRefused s.params.dir s.h <;> cases s.h.active <;> simp

/-- A session begun: the handle, the trace, the budget and the result, by the peripheral's answer (R107, R108). -/
theorem startSession_eq (m : Bool) (s : State) :
    startSession m s =
      { s with
        h := { s.h with active := s.periphActive, singleMode := m }
        trace := s.trace ++ startWrites s.params.dir m (intervalUs s.params.cfg s.h.blockSize s.trace.length)
        budget := if s.periphActive then .unbounded else .num s.params.envLateMax
        rsp := some (resultResponse (if s.periphActive then .ok else .deviceError)) } := by
  unfold startSession
  cases hp : s.periphActive <;> simp [State.setHandle, State.emit, State.setBudget, State.finish, State.answer, hp]

/-- SETBUF answers next in three ways, and no other (R103, R104). -/
theorem execSetbuf_cases (base total block : Nat) (s : State) :
    (badBuffer base total block = true ∧ execSetbuf base total block s = .next (s.finish .invalidParameter)) ∨
    (badBuffer base total block = false ∧ (s.h.initialized = false ∨ s.h.active = true) ∧
      execSetbuf base total block s = .next (s.finish .invalidState)) ∨
    (badBuffer base total block = false ∧ s.h.initialized = true ∧ s.h.active = false ∧
      execSetbuf base total block s = .next (((s.setHandle (attachBuffer base total block s.h)).emit
        [.write .dmaAddress (.num base), .write .dmaBlockNum (.num (total / block)),
          .write .dmaBlockSize (.num block), .barrier]).finish .ok)) := by
  unfold execSetbuf
  cases badBuffer base total block <;> cases s.h.initialized <;> cases s.h.active <;> simp

/-- What the parameter check of SETBUF lets through (R103). -/
theorem badBuffer_false {base total block : Nat} :
    badBuffer base total block = false ↔ base ≠ 0 ∧ total ≠ 0 ∧ block ≠ 0 ∧ block ≤ total := by
  simp [badBuffer, and_assoc]

/-- STOP answers next in two ways, and no other (R109). -/
theorem execStop_cases (s : State) :
    (s.h.active = false ∧ execStop s = .next (s.finish .ok)) ∨
    (s.h.active = true ∧ execStop s = .next
      ((((s.emit [.write .timerControl (.num 0), .write .dmaControl (.num 0), .write .control (.num 0),
        .barrier]).setHandle { s.h with active := false }).capBudget).finish .ok)) := by
  unfold execStop
  cases s.h.active <;> simp

/-- GETBLOCK answers next in two ways, and no other (spec/42_block_commands.md R120, R121). -/
theorem execGetblock_cases (s : State) :
    (getRefused s.params.dir s.h = true ∧ execGetblock s = .next (s.answer absentResponse)) ∨
    (getRefused s.params.dir s.h = false ∧ execGetblock s = .next
      ((s.setHandle (acquireBlock s.params.dir s.h)).answer (blockResponse (blkAddr s.params s.h s.h.idxGet)))) := by
  unfold execGetblock
  cases getRefused s.params.dir s.h <;> simp

/-- RELEASE answers next in two ways, and no other (R122, R123). -/
theorem execRelease_cases (s : State) :
    (releaseRefused s.h = true ∧ execRelease s = .next (s.finish .invalidState)) ∨
    (releaseRefused s.h = false ∧ execRelease s = .next ((s.setHandle (giveBack s.params.dir s.h)).finish .ok)) := by
  unfold execRelease
  cases releaseRefused s.h <;> simp

end Sys2Proof.Machine
end

