-- ==== Sys2Proof/Laws/PerInstr.lean ====
section
/-! SUPPORT. Statements about every instruction as syntax, one lemma for each constructor. -/

namespace Sys2Proof.Laws.EncodeFields

/-- The fields of an instruction's command word are those of format C (spec/30_encoding.md R61, R63, R64). -/
def Statement (i : Instr) : Prop :=
  cmdRsv (encode i).cmd = 0 ∧ cmdOp (encode i).cmd = i.op ∧ cmdM (encode i).cmd = i.modifier

theorem init (m : Bool) : Statement (.init m) := by unfold Statement; cases m <;> decide
theorem uninit : Statement .uninit := by unfold Statement; decide
theorem setbuf (base total block : Nat) : Statement (.setbuf base total block) := by
  unfold Statement
  refine ⟨?_, ?_, ?_⟩ <;> simp only [encode, Instr.modifier, Instr.op] <;> decide
theorem start (m : Bool) : Statement (.start m) := by unfold Statement; cases m <;> decide
theorem stop : Statement .stop := by unfold Statement; decide
theorem getblock : Statement .getblock := by unfold Statement; decide
theorem release : Statement .release := by unfold Statement; decide
theorem getstatus : Statement .getstatus := by unfold Statement; decide

end Sys2Proof.Laws.EncodeFields
end

