-- ==== Sys2Proof/Tests/Slice0.lean ====
section
/-! SUPPORT. Tests of one decode or one step each, their expected results from the tables of the spec (the source of each stands
in its comment), and for every statement that has hypotheses a concrete case that meets them. -/

namespace Sys2Proof.Tests

open Sys2Proof.Machine

/-! ### Small states -/

/-- An initialized handle with a callback and the buffer of vector S2 (base `0x20000000`, four blocks of 1024), its cursors, and
its flags as the columns of spec/95_test_vectors.md section 0 stand, from left to right: act, sgl, lim, emp, ful, ovf, eos. -/
def row (get rel prod : Nat) (f : BitVec 7) : Handle :=
  ⟨true, true, true, 0x20000000, 1024, 4, get, rel, prod, f.getLsbD 6, f.getLsbD 5, f.getLsbD 4, f.getLsbD 3, f.getLsbD 2,
    f.getLsbD 1, f.getLsbD 0⟩

/-- Two blocks of 1024 at the base of the output vectors. -/
def row2 (get rel prod : Nat) (f : BitVec 7) : Handle := { row get rel prod f with base := 0x30000000, blockCount := 2 }

/-- One block of 512 (vector V-B6). -/
def row1 (f : BitVec 7) : Handle := { row 0 0 0 f with base := 0x1000, blockSize := 512, blockCount := 1 }

/-- Initialized, no buffer. -/
def idle : Handle := { Handle.zero with initialized := true, cbEn := true }

/-- The parameters of an output channel, and of one that adopts the peripheral's index. -/
def outP : Params := { Config.default with dir := .output }
def adoptP : Params := { Config.default with prodAdvance := .adoptIndex }

def inS (h : Handle) : State := { State.resetOf Config.default with h := h }
def outS (h : Handle) : State := { State.resetOf outP with h := h }
def adoptS (h : Handle) : State := { State.resetOf adoptP with h := h }

/-- What a step leaves in the handle and on the response port. -/
def seen : Answer → Option (Handle × Option Response)
  | .next t => some (t.h, t.rsp)
  | .fault _ => none
  | .refused _ => none

/-- What an event leaves in the handle and on the event port. -/
def heard : Answer → Option (Handle × Option EventMask)
  | .next t => some (t.h, t.evt)
  | .fault _ => none
  | .refused _ => none

/-- What a step appends to the trace of a state that has an empty one. -/
def traced : Answer → Option (List Mark)
  | .next t => some t.trace
  | .fault _ => none
  | .refused _ => none

/-- The fault a step stops with. -/
def stopped : Answer → Option Fault
  | .next _ => none
  | .fault f => some f
  | .refused _ => none

def okRsp : Option Response := some ⟨false, 0, false, 0, 0⟩
def badState : Option Response := some ⟨false, 2, false, 0, 0⟩

def evData : EventWord := ⟨0b01, 0⟩
def evEos : EventWord := ⟨0b10, 0⟩
def evBoth : EventWord := ⟨0b11, 0⟩
def evNone : EventWord := ⟨0b00, 0⟩

/-! ### WellFormed: an ill-formed term for each check (spec/00_scope.md R4, spec/30_encoding.md R60) -/

theorem test_wf_params : Config.default.wf = true := by decide
theorem test_wf_params_addr : ({ Config.default with addrW := 0 } : Params).wf = false := by decide
theorem test_wf_params_size : ({ Config.default with sizeW := 0 } : Params).wf = false := by decide
theorem test_wf_setbuf : (Instr.setbuf 4294967295 4294967295 4294967295).wf Config.default = true := by decide
theorem test_wf_setbuf_base : (Instr.setbuf 4294967296 1 1).wf Config.default = false := by decide
theorem test_wf_setbuf_total : (Instr.setbuf 1 4294967296 1).wf Config.default = false := by decide
theorem test_wf_setbuf_block : (Instr.setbuf 1 1 4294967296).wf Config.default = false := by decide
theorem test_wf_port_base : CommandPort.wf Config.default ⟨2, 4294967296, 1, 1⟩ = false := by decide
theorem test_wf_port_total : CommandPort.wf Config.default ⟨2, 1, 4294967296, 1⟩ = false := by decide
theorem test_wf_port_block : CommandPort.wf Config.default ⟨2, 1, 1, 4294967296⟩ = false := by decide
theorem test_wf_event : EventWord.wf Config.default ⟨1, 4294967296⟩ = false := by decide

/-! ### Decoding: the 8-bit patterns of R63, written out in bits -/

theorem test_decode_init : decode ⟨0b00000000, 5, 6, 7⟩ = .ok (.init false) ∧ decode ⟨0b00010000, 5, 6, 7⟩ = .ok (.init true) := by
  decide
theorem test_decode_uninit : decode ⟨0b00000001, 5, 6, 7⟩ = .ok .uninit := by decide
theorem test_decode_setbuf : decode ⟨0b00000010, 5, 6, 7⟩ = .ok (.setbuf 5 6 7) := by decide
theorem test_decode_start : decode ⟨0b00000011, 5, 6, 7⟩ = .ok (.start false) ∧ decode ⟨0b00010011, 5, 6, 7⟩ = .ok (.start true) := by
  decide
theorem test_decode_stop : decode ⟨0b00000100, 5, 6, 7⟩ = .ok .stop := by decide
theorem test_decode_getblock : decode ⟨0b00000101, 5, 6, 7⟩ = .ok .getblock := by decide
theorem test_decode_release : decode ⟨0b00000110, 5, 6, 7⟩ = .ok .release := by decide
theorem test_decode_getstatus : decode ⟨0b00000111, 5, 6, 7⟩ = .ok .getstatus := by decide

/-- The illegal words of spec/95_test_vectors.md section 2.1, by their cause. -/
theorem test_decode_modifier :
    ([0x11, 0x12, 0x14, 0x15, 0x16, 0x17] : List CmdWord).map (fun w => decode ⟨w, 0, 0, 0⟩)
      = List.replicate 6 (.error .modifierSet) := by decide
theorem test_decode_reserved_op :
    ([0x08, 0x0B, 0x0F, 0x18, 0x1F] : List CmdWord).map (fun w => decode ⟨w, 0, 0, 0⟩)
      = List.replicate 5 (.error .reservedOp) := by decide
theorem test_decode_reserved_bits :
    ([0x20, 0x23, 0x40, 0x80, 0x90, 0xE0, 0xFF] : List CmdWord).map (fun w => decode ⟨w, 0, 0, 0⟩)
      = List.replicate 7 (.error .reservedBits) := by decide

/-- The command words of R73, from the encoder. -/
theorem test_encode_words :
    ([.init true, .init false, .uninit, .setbuf 1 2 3, .start true, .start false, .stop, .getblock, .release, .getstatus]
        : List Instr).map (fun i => (encode i).cmd)
      = [0x10, 0x00, 0x01, 0x02, 0x13, 0x03, 0x04, 0x05, 0x06, 0x07] := by decide

theorem test_table_word : decodeTableWord 8 0x13 = some (.start true) ∧ decodeTableWord 8 0x02 = some (.setbuf 0 0 0) ∧
    decodeTableWord 8 0x15 = none ∧ decodeTableWord 16 0x05 = none := by decide

/-! ### One step of each command -/

/-- R101's example, as the first command after reset, through `step`. -/
theorem test_step_init : seen (step (State.reset.withFetchWord 8 0x10)) = some (idle, okRsp) := by decide
/-- Vector V-L1 (c): in state S2 step 8. -/
theorem test_init_while_active :
    seen (execInit false (inS (row 0 0 1 0b1000110))) = some ({ idle with cbEn := false }, okRsp) := by decide
/-- Vector V-L2 (b). -/
theorem test_uninit : seen (execUninit (inS (row 0 0 1 0b1000110))) = some (Handle.zero, okRsp) := by decide
/-- Vector V-L2 (a). -/
theorem test_uninit_trace : traced (execUninit State.reset) = some
    [.write .irqEnable (.num 0), .write .control (.num 0), .write .dmaControl (.num 0), .write .timerControl (.num 0),
      .barrier] := by decide
/-- Example S1, second row: 4 unused bytes. -/
theorem test_setbuf : seen (execSetbuf 0x1000 4100 1024 (inS idle)) =
    some ({ row 0 0 0 0b0001000 with base := 0x1000 }, okRsp) := by decide
/-- Vector V-L4: the sticky flag is kept. -/
theorem test_setbuf_keeps_sticky : seen (execSetbuf 0x20000000 2048 1024 (inS (row 0 0 1 0b0000110))) =
    some ({ row 0 0 0 0b0001010 with blockCount := 2 }, okRsp) := by decide
/-- Vector V-L5, fifth row. -/
theorem test_start_device_error : seen (execStart true { inS (row 0 0 0 0b0001000) with periphActive := false }) =
    some (row 0 0 0 0b0101000, some ⟨false, 3, false, 0, 0⟩) := by decide
/-- Vector V-L8, its START line, with the interval of V-I1's first row. -/
theorem test_start_trace : traced (execStart false (inS (row 0 0 0 0b0001000))) = some
    [.write .control (.num 0), .barrier, .write .timerInterval (.num 16000), .barrier,
      .write .control (.symOr .mode .enable), .barrier, .write .dmaControl (.symOr .enable .dirP2M), .barrier,
      .write .timerControl (.symOr .run .periodic), .barrier] := by decide
/-- Vector V-L7. -/
theorem test_stop : seen (execStop (inS (row 0 0 1 0b1000110))) = some (row 0 0 1 0b0000110, okRsp) := by decide
theorem test_stop_trace : traced (execStop (inS (row 0 0 1 0b1000110))) = some
    [.write .timerControl (.num 0), .write .dmaControl (.num 0), .write .control (.num 0), .barrier] := by decide
/-- Vector V-B3, fifth row: parity and caught up together. -/
theorem test_getblock : seen (execGetblock (inS (row 3 0 0 0b0000100))) =
    some (row 0 0 0 0b0011000, some ⟨false, 0, true, 0x20000C00, 0⟩) := by decide
/-- Example S8, last row: the address is reduced modulo `2^32`. -/
theorem test_getblock_wraps : seen (execGetblock (outS { row2 1 1 0 0b0000000 with base := 0xFFFFFC00 })) =
    some ({ row2 0 1 0 0b0000000 with base := 0xFFFFFC00 }, some ⟨false, 0, true, 0, 0⟩) := by decide
/-- Vector V-B4, sixth row. -/
theorem test_release : seen (execRelease (inS (row 0 3 0 0b0000100))) = some (row 0 0 0 0b0000000, okRsp) := by decide
/-- Vector V-O3. -/
theorem test_release_output : seen (execRelease (outS (row2 1 0 0 0b0001000))) = some (row2 1 1 0 0b0000000, okRsp) := by decide
/-- Vector V-B5 (b). -/
theorem test_getstatus : seen (execGetstatus (inS (row 0 0 1 0b1000111))) =
    some (row 0 0 1 0b1000100, some ⟨false, 0, false, 0, 0b111⟩) := by decide
/-- Section 2.1: an illegal word in state S2 step 8. -/
theorem test_illegal_word : seen (step ((inS (row 0 0 1 0b1000110)).withFetchWord 8 0x15)) =
    some (row 0 0 1 0b1000110, some ⟨true, 0, false, 0, 0⟩) := by decide

/-! ### The event step -/

/-- Vector V-E1: DIR = In, Continuous, catch, `EVT data eos`. -/
theorem test_event_in : heard (handleEvent evBoth (inS (row 0 0 3 0b1000000))) =
    some (row 0 0 0 0b1000111, some 0b1011) := by decide
/-- Section 2.6: DIR = Out, Single, catch, `EVT data`. -/
theorem test_event_out : heard (handleEvent evData (outS (row 0 0 3 0b1100000))) =
    some (row 0 0 0 0b0101000, some 0b0001) := by decide
/-- Section 2.6: DIR = Out, Continuous, catch, `EVT data`. -/
theorem test_event_underflow : heard (handleEvent evData (outS (row 0 0 3 0b1000000))) =
    some (row 0 0 0 0b1001010, some 0b0101) := by decide
/-- Vector V-E13, the last row and the row before it. -/
theorem test_event_adopt : heard (handleEvent ⟨0b10, 9⟩ (adoptS (row 0 0 0 0b1000110))) =
      some (row 0 0 0 0b1000111, some 0b1000) ∧
    stopped (handleEvent ⟨0b01, 4⟩ (adoptS (row 0 0 0 0b1000110))) = some .evtBadIndex := by decide
/-- Vector V-F1 (a) and (c). -/
theorem test_event_no_buffer : stopped (handleEvent evData (inS idle)) = some .evtNoBuffer ∧
    heard (handleEvent evNone (inS idle)) = some (idle, none) := by decide
/-- Vector V-F1 (d): no event step while uninitialized. -/
theorem test_event_not_enabled :
    heard (step { State.reset with inputs := [.deliver], pending := [evData] }) = some (Handle.zero, none) := by decide
/-- Vector V-Q1, its last two rows and the late event after STOP. -/
theorem test_budget : Budget.unbounded.spend.cap 1 = .num 1 ∧ (Budget.num 1).spend.cap 1 = .num 0 ∧
    (Budget.num 1).spend = .num 0 := by decide

/-! ### The combinational functions -/

/-- Section 2.2. -/
theorem test_inc_mod : incMod 0 1 = 0 ∧ incMod 1 2 = 0 ∧ incMod 2 4 = 3 ∧ incMod 3 4 = 0 ∧
    incMod 4294967293 4294967295 = 4294967294 ∧ incMod 4294967294 4294967295 = 0 := by decide
theorem test_gray : (List.range 9).map gray = [0, 1, 3, 2, 6, 7, 5, 4, 12] ∧
    (List.range 9).map (fun i => ungray 4 (gray i)) = List.range 9 := by decide
/-- Vector V-I1. -/
theorem test_interval :
    intervalUs ⟨.audio 44100 16 2, none, 0⟩ 1024 0 = 5804 ∧ intervalUs ⟨.audio 8000 8 1, none, 0⟩ 512 0 = 64000 ∧
    intervalUs ⟨.frame 0 0 30 0, none, 0⟩ 1024 0 = 33333 ∧ intervalUs ⟨.frame 0 0 60 0, none, 0⟩ 1024 0 = 16666 := by decide

/-! ### Witnesses: a concrete case for the hypotheses of each statement -/

/-- A state whose schedule holds one input. -/
def sched (x : Input) (s : State) : State := { s with inputs := [x] }

/-- The invariants in the states that the witnesses use. -/
theorem inv_in : HandleInv Config.default (row 0 0 3 0b1000000) := by constructor <;> decide
theorem inv_in_full_lap : HandleInv Config.default (row 1 1 1 0b1000110) := by constructor <;> decide
theorem inv_in_caught : HandleInv Config.default (row 0 0 0 0b0000110) := by constructor <;> decide
theorem inv_in_holds : HandleInv Config.default (row 2 1 3 0b1000000) := by constructor <;> decide
theorem inv_in_empty : HandleInv Config.default (row 0 0 0 0b0001000) := by constructor <;> decide
theorem inv_in_ahead : HandleInv Config.default (row 2 1 1 0b1000110) := by constructor <;> decide
theorem inv_out_full : HandleInv outP (row2 1 1 0 0b0010000) := by constructor <;> decide
theorem inv_out_fresh : HandleInv outP (row2 0 0 0 0b0001000) := by constructor <;> decide
theorem inv_one_in : HandleInv Config.default (row1 0b1000110) := by constructor <;> decide
theorem inv_one_out : HandleInv outP (row1 0b1000000) := by constructor <;> decide
theorem inv_single : HandleInv Config.default (row 0 0 3 0b1100000) := by constructor <;> decide
theorem inv_no_buffer : HandleInv Config.default idle := by constructor <;> decide

theorem witness_OpcodeRowsSelectTheirCommand :
    (0x10 : CmdWord) &&& 0xEF = 0x00 ∧ (0x00 : CmdWord) &&& 0xEF = 0x00 ∧ (0x01 : CmdWord) &&& 0xFF = 0x01 ∧
    (0x02 : CmdWord) &&& 0xFF = 0x02 ∧ (0x13 : CmdWord) &&& 0xEF = 0x03 ∧ (0x03 : CmdWord) &&& 0xEF = 0x03 ∧
    (0x04 : CmdWord) &&& 0xFF = 0x04 ∧ (0x05 : CmdWord) &&& 0xFF = 0x05 ∧ (0x06 : CmdWord) &&& 0xFF = 0x06 ∧
    (0x07 : CmdWord) &&& 0xFF = 0x07 := by decide

/-- The boundary words of the three causes, and the legal words beside them. -/
theorem witness_IllegalWordsSpellNoCommand :
    (∀ w ∈ ([0x20, 0xE7, 0xFF, 0x08, 0x0F, 0x18, 0x11, 0x12, 0x14, 0x17] : List CmdWord), illegalWord w) ∧
    (∀ w ∈ ([0x00, 0x07, 0x10, 0x13] : List CmdWord), ¬ illegalWord w) ∧
    (sched (.command ⟨0x08, 0, 0, 0⟩ true) State.reset).inputs = [.command ⟨0x08, 0, 0, 0⟩ true] := by
  unfold illegalWord; decide

theorem witness_DecodeAndEncodeAgree :
    (Instr.setbuf 0 0 0).wf Config.default = true ∧ (Instr.setbuf 4294967295 4294967295 4294967295).wf Config.default = true ∧
    (Instr.start true).wf Config.default = true ∧ decode ⟨0x02, 1, 2, 3⟩ = .ok (.setbuf 1 2 3) := by decide

theorem witness_StepRunsTheDecodedCommand :
    (sched (.command ⟨0x02, 1, 2, 3⟩ false) State.reset).inputs = [.command ⟨0x02, 1, 2, 3⟩ false] ∧
    decode (sampleCommand Config.default ⟨0x02, 1, 2, 3⟩) = .ok (.setbuf 1 2 3) := by decide

theorem witness_PlacedWordIsTheNextCommand : decodeTableWord 8 0x05 = some .getblock ∧ decodeTableWord 8 0x13 = some (.start true) := by
  decide

/-- The clauses, delivery without effect in both its ways; the word that fits has the highest block index that does. -/
theorem witness_EventsAreDeliveredWhileInitialized :
    (sched (.completion ⟨0b01, 4294967296⟩) State.reset).inputs = [.completion ⟨0b01, 4294967296⟩] ∧
    (sched (.completion ⟨0b01, 4294967295⟩) State.reset).inputs = [.completion ⟨0b01, 4294967295⟩] ∧
    EventWord.wf State.reset.params ⟨0b01, 4294967295⟩ = true ∧
    (let s := sched .deliver (inS idle); s.inputs = [.deliver] ∧ s.pending = []) ∧
    (let s : State := { State.reset with inputs := [.deliver], pending := [evData] }
     s.inputs = [.deliver] ∧ s.h.initialized = false) ∧
    (let s : State := { inS idle with inputs := [.deliver], pending := [evData] }
     s.inputs = [.deliver] ∧ s.pending = [evData] ∧ s.h.initialized = true) := by decide

theorem witness_ResetInputZeroesTheInstance : (sched .rst (inS (row 0 0 1 0b1000110))).inputs = [.rst] := by decide

theorem witness_ResetStateIsZero : State.reset = State.resetOf Config.default ∧ (outS Handle.zero) = State.resetOf outP := by decide

/-- Each parameter cause alone, at its boundary; then good parameters in the two wrong states. -/
theorem witness_SetbufChecksParametersThenState :
    (∀ x ∈ ([(0, 1, 1), (1, 0, 1), (1, 1, 0), (1, 1, 2)] : List (Nat × Nat × Nat)),
      x.1 = 0 ∨ x.2.1 = 0 ∨ x.2.2 = 0 ∨ x.2.2 > x.2.1) ∧
    ¬((1 : Nat) = 0 ∨ (1 : Nat) = 0 ∨ (1 : Nat) = 0 ∨ (1 : Nat) > 1) ∧
    State.reset.h.initialized = false ∧ (inS (row 0 0 2 0b1000000)).h.active = true := by decide

theorem witness_SetbufAttachesTheBuffer :
    (1 : Nat) ≠ 0 ∧ (1 : Nat) ≤ 1 ∧ (inS idle).h.initialized = true ∧ (inS idle).h.active = false := by decide

/-- Each of the four causes. -/
theorem witness_StartIsRefusedInTheWrongState :
    State.reset.h.initialized = false ∧ (inS idle).h.bufSet = false ∧
    (let s := inS (row 0 0 0 0b0000110); s.params.dir = .input ∧ s.h.bufferFull = true) ∧
    (let s := outS (row2 0 0 0 0b0001000); s.params.dir = .output ∧ s.h.bufferEmpty = true) := by decide

theorem witness_StartWhileActiveIsANoOp :
    let s := inS (row 0 0 1 0b1000000)
    s.h.initialized = true ∧ s.h.bufSet = true ∧ (s.params.dir = .input → s.h.bufferFull = false) ∧
    (s.params.dir = .output → s.h.bufferEmpty = false) ∧ s.h.active = true := by decide

/-- In both directions, with both answers of the peripheral. -/
theorem witness_StartProgramsAndVerifies :
    ∀ s ∈ [inS (row 0 0 0 0b0001000), outS (row2 1 1 0 0b0000000),
        { inS (row 0 0 0 0b0001000) with periphActive := false }],
      s.h.initialized = true ∧ s.h.bufSet = true ∧ (s.params.dir = .input → s.h.bufferFull = false) ∧
      (s.params.dir = .output → s.h.bufferEmpty = false) ∧ s.h.active = false := by decide

theorem witness_StopEndsTheSession : (inS (row 0 0 1 0b1000110)).h.active = true ∧ State.reset.h.active = false := by decide

/-- Each of the three causes. -/
theorem witness_GetblockAnswersAbsent :
    State.reset.h.bufSet = false ∧
    (let s := inS (row 0 0 0 0b0001000); s.params.dir = .input ∧ s.h.bufferEmpty = true) ∧
    (outS (row2 1 1 0 0b0010000)).h.limitOwned = true := by decide

/-- In both directions; the output one with `buffer_empty` set (vector V-O1). -/
theorem witness_GetblockHandsOutTheNextBlock :
    ∀ s ∈ [inS (row 3 0 0 0b0000100), outS (row2 0 0 0 0b0001000)],
      s.h.bufSet = true ∧ (s.params.dir = .input → s.h.bufferEmpty = false) ∧ s.h.limitOwned = false := by decide

theorem witness_ReleaseOfNothingIsRefused :
    State.reset.h.bufSet = false ∧
    (let s := inS (row 2 2 3 0b0000000); s.h.idxRel = s.h.idxGet ∧ s.h.limitOwned = false) := by decide

/-- Holding some blocks, and holding all of them. -/
theorem witness_ReleaseGivesTheOldestBlockBack :
    ∀ s ∈ [inS (row 0 3 0 0b0000100), outS (row2 1 1 0 0b0010000)],
      s.h.bufSet = true ∧ ¬(s.h.idxRel = s.h.idxGet ∧ s.h.limitOwned = false) := by decide

theorem witness_EventWithoutDataRunsTheHandler : evNone.ev.getLsbD 0 = false ∧ evEos.ev.getLsbD 0 = false := by decide

/-- Both strategies; the adopted index the highest one in range. -/
theorem witness_EventWithDataRunsTheHandler :
    evData.ev.getLsbD 0 = true ∧ (inS (row 0 0 3 0b1000000)).h.bufSet = true ∧
    Config.default.prodAdvance = .selfIncrement ∧ (0 : Nat) = incMod 3 4 ∧
    adoptP.prodAdvance = .adoptIndex ∧ (3 : Nat) < (adoptS (row 0 0 0 0b1000000)).h.blockCount := by decide

/-- The lowest index out of range. -/
theorem witness_EventFaultsByName :
    evData.ev.getLsbD 0 = true ∧ (inS idle).h.bufSet = false ∧ evEos.ev.getLsbD 0 = false ∧
    (let s := adoptS (row 0 0 0 0b1000000)
     s.h.bufSet = true ∧ s.params.prodAdvance = .adoptIndex ∧ (4 : Nat) ≥ s.h.blockCount) := by decide

theorem witness_SingleSessionEndsAtItsFirstEvent : ∃ u t,
    exec (.start true) (inS (row 0 0 3 0b0000000)) = .next u ∧ u.h.active = true ∧
    (inS (row 0 0 3 0b0000000)).h.active = false ∧ (inS (row 0 0 3 0b0000000)).evt = none ∧
    handleEvent evData u = .next t := ⟨_, _, rfl, rfl, rfl, rfl, rfl⟩

theorem witness_CallbackCarriesTheCombinedMask : ∃ t,
    (inS (row 0 0 3 0b1000000)).evt = none ∧ handleEvent evBoth (inS (row 0 0 3 0b1000000)) = .next t ∧
    t.evt = some 0b1011 := ⟨_, rfl, rfl, rfl⟩

theorem witness_HandlerIgnoresActiveAndTheAcquireSide : ∃ t,
    handleEvent evData (outS (row2 1 1 0 0b0010000)) = .next t := ⟨_, rfl⟩

theorem witness_GrayCodeIsInvertible : (0 : Nat) < 2 ^ 0 ∧ (4294967295 : Nat) < 2 ^ 32 := by decide

theorem witness_CursorAdvanceIsModular :
    (1 : Nat) ≤ 1 ∧ (0 : Nat) < 1 ∧ (1 : Nat) < 2 ^ 1 ∧
    (1 : Nat) ≤ 4294967295 ∧ (4294967294 : Nat) < 4294967295 ∧ (4294967295 : Nat) < 2 ^ 32 := by decide

theorem witness_BlocksTileTheBuffer :
    (0 : Nat) < 1 ∧ (1 : Nat) ≤ 4294967295 ∧ (4294967295 : Nat) < 2 ^ Config.default.sizeW ∧
    (4294967294 : Nat) < (attachBuffer 1 4294967295 1 idle).blockCount ∧ 1 + 4294967295 ≤ 2 ^ Config.default.addrW := by decide

/-- A failing command of either kind. -/
theorem witness_FailingCommandsChangeNothing :
    seen (exec (.setbuf 0 1 1) State.reset) = some (Handle.zero, some ⟨false, 1, false, 0, 0⟩) ∧
    seen (exec (.start true) { inS (row 0 0 0 0b0001000) with periphActive := false }) =
      some (row 0 0 0 0b0101000, some ⟨false, 3, false, 0, 0⟩) := by decide

/-- A response with each of the three codes, with a cause of each row. -/
theorem witness_ResultsHaveExactlyTheirCauses :
    (∃ t, exec (.setbuf 1 1 2) State.reset = .next t ∧ t.rsp = some ⟨false, 1, false, 0, 0⟩) ∧
    (∃ t, exec (.setbuf 1 1 1) State.reset = .next t ∧ t.rsp = badState) ∧
    (∃ t, exec (.start true) (outS (row2 0 0 0 0b0001000)) = .next t ∧ t.rsp = badState) ∧
    (∃ t, exec .release (inS (row 2 2 3 0b0000000)) = .next t ∧ t.rsp = badState) ∧
    ∃ t, exec (.start true) { inS (row 0 0 0 0b0001000) with periphActive := false } = .next t ∧
      t.rsp = some ⟨false, 3, false, 0, 0⟩ :=
  ⟨⟨_, rfl, rfl⟩, ⟨_, rfl, rfl⟩, ⟨_, rfl, rfl⟩, ⟨_, rfl, rfl⟩, ⟨_, rfl, rfl⟩⟩

theorem witness_AnswersWhenUninitialized : State.reset.h = Handle.zero := by decide

/-- A state in Active(Continuous) with an overflow unread, and a step from it. -/
theorem inv_state : (sched (.command ⟨0x05, 0, 0, 0⟩ true) (inS (row 1 1 1 0b1000110))).Inv :=
  ⟨inv_in_full_lap, by decide⟩

theorem witness_StepKeepsTheInvariants : ∃ t,
    (sched (.command ⟨0x05, 0, 0, 0⟩ true) (inS (row 1 1 1 0b1000110))).Inv ∧
    step (sched (.command ⟨0x05, 0, 0, 0⟩ true) (inS (row 1 1 1 0b1000110))) = .next t := ⟨_, inv_state, rfl⟩

theorem witness_StepKeepsTheParameters : ∃ t,
    step (State.reset.withFetchWord 8 0x10) = .next t := ⟨_, rfl⟩

theorem witness_TraceOnlyGrows : (∃ t, step (State.reset.withFetchWord 8 0x10) = .next t) ∧
    (∃ t, exec .getblock (inS (row 3 0 0 0b0000100)) = .next t) ∧ (∃ t, exec .release (inS (row 2 1 3 0b1000000)) = .next t) ∧
    ∃ t, exec .getstatus State.reset = .next t := ⟨⟨_, rfl⟩, ⟨_, rfl⟩, ⟨_, rfl⟩, ⟨_, rfl⟩⟩

/-- Both faults are reached by a step. -/
theorem witness_StepStopsOnlyOnTheTwoFaults :
    stopped (step { inS idle with inputs := [.deliver], pending := [evData] }) = some .evtNoBuffer ∧
    stopped (step { adoptS (row 0 0 0 0b1000000) with inputs := [.deliver], pending := [⟨0b01, 4⟩] }) = some .evtBadIndex := by
  decide

theorem witness_ContextsWriteOnlyTheirOwnFields :
    (∃ t, exec (.setbuf 1 1 1) (inS (row 2 1 3 0b0000011)) = .next t ∧ t.h.idxProd = 0) ∧
    ∃ t, handleEvent evData (inS (row 0 0 3 0b1000000)) = .next t ∧ t.h.ovfUdf = true :=
  ⟨⟨_, rfl, rfl⟩, ⟨_, rfl, rfl⟩⟩

/-- A step that clears both sticky flags, and one that sets both. -/
theorem witness_StickyFlagsLastUntilRead :
    (∃ t, step ((inS (row 0 0 1 0b1000011)).withFetchWord 8 0x07) = .next t ∧ t.h.ovfUdf = false ∧ t.h.eos = false) ∧
    ∃ t, step { inS (row 0 0 3 0b1000000) with inputs := [.deliver], pending := [evBoth] } = .next t ∧
      t.h.ovfUdf = true ∧ t.h.eos = true := ⟨⟨_, rfl, rfl, rfl⟩, ⟨_, rfl, rfl, rfl⟩⟩

/-- The transitions of the table that change the lifecycle state. -/
theorem witness_LifecycleTransitions :
    HandleInv Config.default (row 0 0 3 0b1100000) ∧ lifecycle (row 0 0 3 0b1100000) = .activeSingle ∧
    (∃ t, handleEvent evNone (inS (row 0 0 3 0b1100000)) = .next t) ∧
    HandleInv Config.default idle ∧ lifecycle idle = .idleNoBuffer ∧
    (∃ t, exec (.setbuf 1 1 1) (inS idle) = .next t ∧ t.rsp = okRsp) ∧
    HandleInv outP (row1 0b1000000) ∧ lifecycle (row1 0b1000000) = .activeContinuous ∧
    ∃ t, exec .stop (outS (row1 0b1000000)) = .next t ∧ t.rsp = okRsp :=
  ⟨inv_single, rfl, ⟨_, rfl⟩, inv_no_buffer, rfl, ⟨_, rfl, rfl⟩, inv_one_out, rfl, ⟨_, rfl, rfl⟩⟩

theorem witness_HeldBlocksAreCounted :
    HandleInv Config.default (inS (row 2 1 3 0b1000000)).h ∧
    (∃ t r, exec .getblock (inS (row 2 1 3 0b1000000)) = .next t ∧ t.rsp = some r ∧ r.blkValid = true) ∧
    (∃ t r, exec .release (inS (row 2 1 3 0b1000000)) = .next t ∧ t.rsp = some r ∧ r.code = 0) ∧
    (∃ t r, exec (.setbuf 1 1 1) (inS (row 2 1 3 0b1000000)) = .next t ∧ t.rsp = some r ∧ r.code = 2) ∧
    ∃ t, handleEvent evData (inS (row 2 1 3 0b1000000)) = .next t :=
  ⟨inv_in_holds, ⟨_, _, rfl, rfl, rfl⟩, ⟨_, _, rfl, rfl, rfl⟩, ⟨_, _, rfl, rfl, rfl⟩, ⟨_, rfl⟩⟩

theorem witness_OwnershipPassesWithTheBlock :
    HandleInv Config.default (inS (row 2 1 3 0b1000000)).h ∧
    (∃ t r, exec .getblock (inS (row 2 1 3 0b1000000)) = .next t ∧ t.rsp = some r ∧ r.blkValid = true) ∧
    ∃ t r, exec .release (inS (row 2 1 3 0b1000000)) = .next t ∧ t.rsp = some r ∧ r.code = 0 :=
  ⟨inv_in_holds, ⟨_, _, rfl, rfl, rfl⟩, ⟨_, _, rfl, rfl, rfl⟩⟩

/-- In the output direction with every block free and with none; in the input direction empty, with one block held and one fresh
(fewer than are free), with one block held and as many fresh as free, and with a full lap and none held. -/
theorem witness_BackpressureAtAllBlocksHeld :
    (HandleInv outP (outS (row2 0 0 0 0b0001000)).h ∧ held (row2 0 0 0 0b0001000) = 0) ∧
    (HandleInv outP (outS (row2 1 1 0 0b0010000)).h ∧ held (row2 1 1 0 0b0010000) = 2) ∧
    (HandleInv Config.default (inS (row 0 0 0 0b0001000)).h ∧ (row 0 0 0 0b0001000).bufferEmpty = true) ∧
    (HandleInv Config.default (inS (row 2 1 3 0b1000000)).h ∧ held (row 2 1 3 0b1000000) = 1 ∧ (3 + 4 - 2 - 1) % 4 + 1 = 1) ∧
    (HandleInv Config.default (inS (row 2 1 1 0b1000110)).h ∧ held (row 2 1 1 0b1000110) = 1 ∧ (1 + 4 - 2 - 1) % 4 + 1 = 3) ∧
    HandleInv Config.default (inS (row 1 1 1 0b1000110)).h ∧ held (row 1 1 1 0b1000110) = 0 ∧ (1 + 4 - 1 - 1) % 4 + 1 = 4 :=
  ⟨⟨inv_out_fresh, rfl⟩, ⟨inv_out_full, rfl⟩, ⟨inv_in_empty, rfl⟩, ⟨inv_in_holds, rfl, rfl⟩, ⟨inv_in_ahead, rfl, rfl⟩,
    inv_in_full_lap, rfl, rfl⟩

theorem witness_OneReleaseRestoresOneBlock :
    HandleInv outP (outS (row2 1 1 0 0b0010000)).h ∧ (outS (row2 1 1 0 0b0010000)).params.dir = .output ∧
    (outS (row2 1 1 0 0b0010000)).h.limitOwned = true := ⟨inv_out_full, rfl, rfl⟩

theorem witness_OverrunAtTheFirstLap :
    HandleInv Config.default (inS (row 0 0 3 0b1000000)).h ∧ (inS (row 0 0 3 0b1000000)).h.bufSet = true ∧
    (inS (row 0 0 3 0b1000000)).params.prodAdvance = .selfIncrement ∧ (inS (row 0 0 3 0b1000000)).h.singleMode = false ∧
    evData.ev.getLsbD 0 = true ∧ HandleInv Config.default (inS (row 0 0 0 0b0000110)).h :=
  ⟨inv_in, rfl, rfl, rfl, rfl, inv_in_caught⟩

/-- A data event and a successful GETBLOCK, in both directions. -/
theorem witness_OneBlockBuffers :
    HandleInv Config.default (inS (row1 0b1000110)).h ∧ (inS (row1 0b1000110)).h.blockCount = 1 ∧
    evData.ev.getLsbD 0 = true ∧ (∃ t, handleEvent evData (inS (row1 0b1000110)) = .next t) ∧
    (∃ t r, exec .getblock (inS (row1 0b1000110)) = .next t ∧ t.rsp = some r ∧ r.blkValid = true) ∧
    HandleInv outP (outS (row1 0b1000000)).h ∧
    ∃ t r, exec .getblock (outS (row1 0b1000000)) = .next t ∧ t.rsp = some r ∧ r.blkValid = true :=
  ⟨inv_one_in, rfl, rfl, ⟨_, rfl⟩, ⟨_, _, rfl, rfl, rfl⟩, inv_one_out, ⟨_, _, rfl, rfl, rfl⟩⟩

theorem witness_RepeatedCommandsAreIdempotent :
    (∃ t, exec .stop (inS (row 0 0 1 0b1000110)) = .next t) ∧ (∃ t, exec (.init true) State.reset = .next t) ∧
    (∃ t, exec .uninit (inS (row 0 0 1 0b1000110)) = .next t) ∧ ∃ t, exec .getstatus (inS (row 0 0 1 0b1000111)) = .next t :=
  ⟨⟨_, rfl⟩, ⟨_, rfl⟩, ⟨_, rfl⟩, ⟨_, rfl⟩⟩

/-- A START of each outcome; STOP and UNINIT, an event that ends a session and one that ends none, each with both kinds of budget
(the number 0 among them); and a command that leaves it. -/
theorem witness_BudgetFollowsTheSession :
    (∃ t, exec (.start true) (inS (row 0 0 3 0b0000000)) = .next t ∧ t.rsp = okRsp ∧ t.trace ≠ []) ∧
    (∃ t, exec (.start true) { inS (row 0 0 3 0b0000000) with periphActive := false } = .next t ∧
      t.rsp = some ⟨false, 3, false, 0, 0⟩ ∧ t.trace ≠ []) ∧
    (∀ b ∈ ([.unbounded, .num 0, .num 7] : List Budget),
      (∃ t, exec .stop { inS (row 0 0 1 0b1000000) with budget := b } = .next t ∧ (row 0 0 1 0b1000000).active = true) ∧
      (∃ t, exec .uninit { State.reset with budget := b } = .next t) ∧
      (∃ t, handleEvent evData { inS (row 0 0 3 0b1100000) with budget := b } = .next t ∧ t.h.active = false) ∧
      ∃ t, handleEvent evData { inS (row 0 0 3 0b1000000) with budget := b } = .next t ∧ t.h.active = true) ∧
    ∃ t, exec (.init true) (inS (row 0 0 1 0b1000000)) = .next t :=
  ⟨⟨_, rfl, rfl, by decide⟩, ⟨_, rfl, rfl, by decide⟩,
    by
      simp only [List.forall_mem_cons]
      exact ⟨⟨⟨_, rfl, rfl⟩, ⟨_, rfl⟩, ⟨_, rfl, rfl⟩, ⟨_, rfl, rfl⟩⟩, ⟨⟨_, rfl, rfl⟩, ⟨_, rfl⟩, ⟨_, rfl, rfl⟩, ⟨_, rfl, rfl⟩⟩,
        ⟨⟨_, rfl, rfl⟩, ⟨_, rfl⟩, ⟨_, rfl, rfl⟩, ⟨_, rfl, rfl⟩⟩, by simp⟩, ⟨_, rfl⟩⟩

/-- The last event that `ENV-QUIET` admits, and a command. -/
theorem witness_QuietEnvironmentBoundsLateEvents :
    (∃ t, EnvQuiet { inS (row 0 0 3 0b0000000) with inputs := [.deliver], pending := [evData], budget := .num 1 } ∧
      step { inS (row 0 0 3 0b0000000) with inputs := [.deliver], pending := [evData], budget := .num 1 } = .next t ∧
      eventDue { inS (row 0 0 3 0b0000000) with inputs := [.deliver], pending := [evData], budget := .num 1 } = true) ∧
    ∃ t, EnvQuiet { (inS (row 0 0 3 0b1000000)).withFetchWord 8 0x03 with budget := .num 1 } ∧
      step { (inS (row 0 0 3 0b1000000)).withFetchWord 8 0x03 with budget := .num 1 } = .next t ∧ t.trace = [] := by
  refine ⟨⟨_, ?_, rfl, rfl⟩, ⟨_, ?_, rfl, rfl⟩⟩
  · intro _; decide
  · intro h; exact absurd h (by decide)

theorem witness_IntervalFormula : (16000 : Nat) ≠ 0 ∧ 2 * (16 / 8) ≠ 0 ∧ (30 : Nat) ≠ 0 := by decide

/-- An event that completes and one that faults. -/
theorem witness_ConfigurationIsInvisible :
    (∃ t, handleEvent evBoth (inS (row 0 0 3 0b1000000)) = .next t) ∧ handleEvent evData (inS idle) = .fault .evtNoBuffer :=
  ⟨⟨_, rfl⟩, rfl⟩

theorem witness_OutputGetblockIgnoresTheProducer : (outS (row2 0 0 0 0b0000000)).params.dir = .output := by decide

/-- A caught session in each direction. -/
theorem caught_in : caught (inS (row 0 0 0 0b0000110)) := by unfold caught; decide
theorem caught_out : caught (outS (row2 1 0 0 0b0001010)) := by unfold caught; decide

/-- Each command that helps (RELEASE needs a block held), and commands of every other kind, each from a caught session. -/
theorem witness_RestartNeedsTheConsumer :
    (∃ t r, exec .getblock (inS (row 0 0 0 0b0000110)) = .next t ∧ t.rsp = some r ∧ r.code = 0 ∧ r.blkValid = true) ∧
    (∃ t r, exec (.setbuf 1 1 1) (inS (row 0 0 0 0b0000110)) = .next t ∧ t.rsp = some r ∧ r.code = 0) ∧
    (caught (inS (row 1 0 0 0b0000110)) ∧
      ∃ t r, exec .release (inS (row 1 0 0 0b0000110)) = .next t ∧ t.rsp = some r ∧ r.code = 0) ∧
    (∃ t r, exec .release (outS (row2 1 0 0 0b0001010)) = .next t ∧ t.rsp = some r ∧ r.code = 0) ∧
    (∃ t r, exec .release (inS (row 0 0 0 0b0000110)) = .next t ∧ t.rsp = some r ∧ r.code = 2) ∧
    (∃ t r, exec .getblock (outS (row2 1 0 0 0b0001010)) = .next t ∧ t.rsp = some r ∧ r.blkValid = true) ∧
    (∃ t r, exec (.init true) (inS (row 0 0 0 0b0000110)) = .next t ∧ t.rsp = some r) ∧
    (∃ t r, exec .getstatus (inS (row 0 0 0 0b0000110)) = .next t ∧ t.rsp = some r) ∧
    (∃ t, handleEvent evBoth (inS (row 0 0 0 0b0000110)) = .next t) ∧
    ∃ t, handleEvent evNone (outS (row2 1 0 0 0b0001010)) = .next t :=
  ⟨⟨_, _, rfl, rfl, rfl, rfl⟩, ⟨_, _, rfl, rfl, rfl⟩, ⟨by unfold caught; decide, _, _, rfl, rfl, rfl⟩, ⟨_, _, rfl, rfl, rfl⟩,
    ⟨_, _, rfl, rfl, rfl⟩, ⟨_, _, rfl, rfl, rfl⟩, ⟨_, _, rfl, rfl⟩, ⟨_, _, rfl, rfl⟩, ⟨_, rfl⟩, ⟨_, rfl⟩⟩

theorem witness_InitWhileActiveLeavesThePeripheralRunning : ∃ t,
    (inS (row 0 0 1 0b1000110)).h.active = true ∧ exec (.init false) (inS (row 0 0 1 0b1000110)) = .next t ∧
    evData.ev.getLsbD 0 = true := ⟨_, rfl, rfl, rfl⟩

/-- Four channels after reset, with a command waiting at two of them. -/
def four : System :=
  let y := System.resetOf (fun _ => Config.default)
  { y with audioIn := y.audioIn.withFetchWord 8 0x10, videoOut := y.videoOut.withFetchWord 8 0x10 }

theorem witness_ChannelsShareNothing : ∃ z z',
    Channel.audioIn ≠ Channel.videoOut ∧ System.step .audioIn four = .next z ∧ System.step .videoOut z = .next z' :=
  ⟨_, _, by decide, rfl, rfl⟩

end Sys2Proof.Tests
end

section
/-! The lifecycle (spec/10_state.md R28, R29): how `lifecycle` reads the handle, and where each command and the event lead. -/

namespace Sys2Proof.Machine

/-! ### Reading the lifecycle state -/

section

variable {h h' : Handle}

theorem lifecycle_congr (hi : h'.initialized = h.initialized) (ha : h'.active = h.active)
    (hm : h'.singleMode = h.singleMode) (hb : h'.bufSet = h.bufSet) : lifecycle h' = lifecycle h := by
  simp only [lifecycle, hi, ha, hm, hb]

/-- The mode is read only while the session is active. -/
theorem lifecycle_congr_of_inactive (ha' : h'.active = false) (ha : h.active = false)
    (hi : h'.initialized = h.initialized) (hb : h'.bufSet = h.bufSet) : lifecycle h' = lifecycle h := by
  simp [lifecycle, ha', ha, hi, hb]

theorem lifecycle_of_uninitialized (hi : h.initialized = false) : lifecycle h = .uninitialized := by
  simp [lifecycle, hi]

theorem lifecycle_of_active (hi : h.initialized = true) (ha : h.active = true) :
    lifecycle h = if h.singleMode = true then .activeSingle else .activeContinuous := by
  simp [lifecycle, hi, ha]

theorem lifecycle_of_inactive (hi : h.initialized = true) (ha : h.active = false) :
    lifecycle h = if h.bufSet = true then .idleAttached else .idleNoBuffer := by
  simp [lifecycle, hi, ha]

theorem lifecycle_eq_activeSingle_iff :
    lifecycle h = .activeSingle ↔ h.initialized = true ∧ h.active = true ∧ h.singleMode = true := by
  cases hi : h.initialized with
  | false => simp [lifecycle_of_uninitialized hi]
  | true =>
    cases ha : h.active with
    | false => rw [lifecycle_of_inactive hi ha]; split <;> simp
    | true => simp [lifecycle_of_active hi ha]

theorem lifecycle_eq_idleAttached_iff :
    lifecycle h = .idleAttached ↔ h.initialized = true ∧ h.active = false ∧ h.bufSet = true := by
  cases hi : h.initialized with
  | false => simp [lifecycle_of_uninitialized hi]
  | true =>
    cases ha : h.active with
    | false => simp [lifecycle_of_inactive hi ha]
    | true => rw [lifecycle_of_active hi ha]; split <;> simp

end

/-- Only `Ok` has the code 0 (spec/30_encoding.md R66). -/
@[simp] theorem resultResponse_code_eq_zero (r : Result) : (resultResponse r).code = 0#2 ↔ r = .ok := by
  cases r <;> decide

/-- What START's failure checks let through is initialized and has a buffer (spec/41_lifecycle_commands.md R105). -/
theorem initialized_and_bufSet_of_start_accepted {d : Dir} {h : Handle} (hr : startRefused d h = false) :
    h.initialized = true ∧ h.bufSet = true := by
  simp only [startRefused, Bool.or_eq_false_iff, Bool.not_eq_false'] at hr
  exact hr.1

/-! ### The updates of the handle that leave the lifecycle state as it is -/

@[simp] theorem lifecycle_acquireBlock (d : Dir) (h : Handle) : lifecycle (acquireBlock d h) = lifecycle h :=
  lifecycle_congr rfl rfl rfl rfl

@[simp] theorem lifecycle_giveBack (d : Dir) (h : Handle) : lifecycle (giveBack d h) = lifecycle h := by
  cases d <;> exact lifecycle_congr rfl rfl rfl rfl

/-- Steps 2a to 2c of the handler (spec/60_exceptions.md R149 to R151). -/
@[simp] theorem lifecycle_takeData (d : Dir) (q : Nat) (h : Handle) : lifecycle (takeData d q h) = lifecycle h := by
  rw [takeData_eq]
  exact lifecycle_congr rfl rfl rfl rfl

/-! ### Each command answers, and where it leads -/

theorem execInit_lifecycle (m : Bool) (s : State) :
    ∃ t r, execInit m s = .next t ∧ t.rsp = some r ∧ lifecycle t.h = .idleNoBuffer :=
  ⟨_, _, rfl, rfl, rfl⟩

theorem execUninit_lifecycle (s : State) :
    ∃ t r, execUninit s = .next t ∧ t.rsp = some r ∧ lifecycle t.h = .uninitialized :=
  ⟨_, _, rfl, rfl, rfl⟩

theorem execSetbuf_lifecycle (base total block : Nat) (s : State) :
    ∃ t r, execSetbuf base total block s = .next t ∧ t.rsp = some r ∧
      if r.code = 0 then
        (lifecycle s.h = .idleNoBuffer ∨ lifecycle s.h = .idleAttached) ∧ lifecycle t.h = .idleAttached
      else lifecycle t.h = lifecycle s.h := by
  obtain ⟨-, hx⟩ | ⟨-, -, hx⟩ | ⟨-, hi, ha, hx⟩ := execSetbuf_cases base total block s
  · exact ⟨_, _, hx, rfl, by simp⟩
  · exact ⟨_, _, hx, rfl, by simp⟩
  · have attached : lifecycle (attachBuffer base total block s.h) = .idleAttached :=
      lifecycle_eq_idleAttached_iff.mpr ⟨hi, ha, rfl⟩
    have idle : lifecycle s.h = .idleNoBuffer ∨ lifecycle s.h = .idleAttached := by
      rw [lifecycle_of_inactive hi ha]; split <;> simp
    exact ⟨_, _, hx, rfl, by simp [attached, idle]⟩

/-- A session that START begins from an idle handle is active in the asked mode when the peripheral confirms it, and otherwise
leaves the lifecycle state as it was (R107, R108). -/
theorem startSession_lifecycle (m : Bool) {s : State} (hi : s.h.initialized = true) (ha : s.h.active = false) :
    lifecycle (startSession m s).h =
      if s.periphActive = true then (if m = true then .activeSingle else .activeContinuous) else lifecycle s.h := by
  rw [startSession_eq]
  cases hp : s.periphActive
  · exact lifecycle_congr_of_inactive rfl ha rfl rfl
  · exact lifecycle_of_active hi rfl

theorem execStart_lifecycle (m : Bool) (s : State) :
    ∃ t r, execStart m s = .next t ∧ t.rsp = some r ∧
      if r.code = 0 ∧ lifecycle s.h = .idleAttached then
        lifecycle t.h = if m = true then .activeSingle else .activeContinuous
      else lifecycle t.h = lifecycle s.h := by
  obtain ⟨-, hx⟩ | ⟨-, ha, hx⟩ | ⟨hr, ha, hx⟩ := execStart_cases m s
  · exact ⟨_, _, hx, rfl, by simp⟩
  · have not_idle : lifecycle s.h ≠ .idleAttached := by simp [lifecycle_eq_idleAttached_iff, ha]
    exact ⟨_, _, hx, rfl, by simp [not_idle]⟩
  · obtain ⟨hi, hb⟩ := initialized_and_bufSet_of_start_accepted hr
    have idle : lifecycle s.h = .idleAttached := lifecycle_eq_idleAttached_iff.mpr ⟨hi, ha, hb⟩
    have hsession := startSession_lifecycle m hi ha
    refine ⟨_, resultResponse (if s.periphActive then .ok else .deviceError), hx, by rw [startSession_eq], ?_⟩
    cases hp : s.periphActive <;> simp [hsession, hp, idle]

theorem execStop_lifecycle {s : State} (hinv : HandleInv s.params s.h) :
    ∃ t r, execStop s = .next t ∧ t.rsp = some r ∧
      lifecycle t.h = if s.h.active = true then .idleAttached else lifecycle s.h := by
  obtain ⟨ha, hx⟩ | ⟨ha, hx⟩ := execStop_cases s
  · exact ⟨_, _, hx, rfl, by simp [ha]⟩
  · obtain ⟨hb, hi⟩ := hinv.active_needs ha
    exact ⟨_, _, hx, rfl, by simp [ha, lifecycle_eq_idleAttached_iff, hi, hb]⟩

theorem execGetblock_lifecycle (s : State) :
    ∃ t r, execGetblock s = .next t ∧ t.rsp = some r ∧ lifecycle t.h = lifecycle s.h := by
  obtain ⟨-, hx⟩ | ⟨-, hx⟩ := execGetblock_cases s
  · exact ⟨_, _, hx, rfl, rfl⟩
  · exact ⟨_, _, hx, rfl, lifecycle_acquireBlock _ _⟩

theorem execRelease_lifecycle (s : State) :
    ∃ t r, execRelease s = .next t ∧ t.rsp = some r ∧ lifecycle t.h = lifecycle s.h := by
  obtain ⟨-, hx⟩ | ⟨-, hx⟩ := execRelease_cases s
  · exact ⟨_, _, hx, rfl, rfl⟩
  · exact ⟨_, _, hx, rfl, lifecycle_giveBack _ _⟩

theorem execGetstatus_lifecycle (s : State) :
    ∃ t r, execGetstatus s = .next t ∧ t.rsp = some r ∧ lifecycle t.h = lifecycle s.h :=
  ⟨_, _, rfl, rfl, lifecycle_congr rfl rfl rfl rfl⟩

/-! ### Where an event leads -/

/-- Steps 3 and 4 of the handler end an active Single session and nothing else (spec/60_exceptions.md R152, R153). -/
theorem lifecycle_endSingle_noteEos (e : EventWord) {h : Handle}
    (hneeds : h.active = true → h.bufSet = true ∧ h.initialized = true) :
    lifecycle (endSingle (noteEos e h)) = if lifecycle h = .activeSingle then .idleAttached else lifecycle h := by
  rw [endSingle_noteEos_eq]
  by_cases hs : h.active = true ∧ h.singleMode = true
  · obtain ⟨ha, hm⟩ := hs
    obtain ⟨hb, hi⟩ := hneeds ha
    rw [if_pos (lifecycle_eq_activeSingle_iff.mpr ⟨hi, ha, hm⟩), lifecycle_eq_idleAttached_iff]
    exact ⟨hi, by simp [hm], hb⟩
  · have not_single : lifecycle h ≠ .activeSingle := fun hl => hs (lifecycle_eq_activeSingle_iff.mp hl).2
    rw [if_neg not_single]
    exact lifecycle_congr rfl (by simpa using hs) rfl rfl

theorem handleEvent_lifecycle {e : EventWord} {s t : State} (hinv : HandleInv s.params s.h)
    (hx : handleEvent e s = .next t) :
    lifecycle t.h = if lifecycle s.h = .activeSingle then .idleAttached else lifecycle s.h := by
  obtain ⟨-, rfl⟩ | ⟨-, q, -, rfl⟩ := handleEvent_next hx
  · simpa using lifecycle_endSingle_noteEos e hinv.active_needs
  · have hneeds : (takeData s.params.dir q s.h).active = true →
        (takeData s.params.dir q s.h).bufSet = true ∧ (takeData s.params.dir q s.h).initialized = true := by
      simpa only [takeData_eq] using hinv.active_needs
    simpa using lifecycle_endSingle_noteEos e hneeds

/-- Settles O45: each command by its own rule, and the event by steps 3 and 4 of the handler. -/
theorem lifecycleTransitions : Obligations.LifecycleTransitions := by
  unfold Obligations.LifecycleTransitions
  intro s hinv
  refine ⟨fun i => ?_, fun e t hx => handleEvent_lifecycle hinv hx⟩
  cases i with
  | init m => exact execInit_lifecycle m s
  | uninit => exact execUninit_lifecycle s
  | setbuf base total block => exact execSetbuf_lifecycle base total block s
  | start m => exact execStart_lifecycle m s
  | stop => exact execStop_lifecycle hinv
  | getblock => exact execGetblock_lifecycle s
  | release => exact execRelease_lifecycle s
  | getstatus => exact execGetstatus_lifecycle s

/-! ### The reset state (R33) -/

section

variable (p : Params)

@[simp] theorem State.resetOf_h : (State.resetOf p).h = Handle.zero := rfl
@[simp] theorem State.resetOf_pending : (State.resetOf p).pending = [] := rfl
@[simp] theorem State.resetOf_budget : (State.resetOf p).budget = .num 0 := rfl
@[simp] theorem State.resetOf_irqEnabled : (State.resetOf p).irqEnabled = false := rfl

end

@[simp] theorem lifecycle_zero : lifecycle Handle.zero = .uninitialized := rfl

/-- Settles O10: the default reset state is a `State.resetOf`, and `State.resetOf p` has the zero handle for every `p`. -/
theorem resetStateIsZero : Obligations.ResetStateIsZero := by
  unfold Obligations.ResetStateIsZero
  intro s hs
  obtain ⟨p, rfl⟩ : ∃ p, s = State.resetOf p := hs.elim (fun h => ⟨Config.default, h⟩) id
  simp only [State.resetOf_h, lifecycle_zero, State.resetOf_pending, State.resetOf_budget, State.resetOf_irqEnabled]
  simp [Handle.zero]

end Sys2Proof.Machine
end

section
/-! The decoder of the command port (spec/30_encoding.md R61 to R75) and the responses of the commands (R65 to R68). -/

namespace Sys2Proof.Machine

/-! ### The fields of a command word (R61) -/

theorem cmdOp_toNat (w : CmdWord) : (cmdOp w).toNat = w.toNat % 16 := by
  simp [cmdOp]

theorem cmdRsv_eq_zero_iff (w : CmdWord) : cmdRsv w = 0 ↔ w.toNat / 32 = 0 := by
  have hw := w.isLt
  rw [← BitVec.toNat_inj]
  simp [cmdRsv, Nat.shiftRight_eq_div_pow]
  omega

theorem getLsbD_modifier_eq_true_iff (w : CmdWord) : w.getLsbD 4 = true ↔ w.toNat / 16 % 2 = 1 := by
  simp [BitVec.getLsbD, Nat.testBit_eq_decide_div_mod_eq]

/-- The mask of the rows with a modifier keeps every field but the modifier. -/
theorem cmdRsv_and_modifierMask (w : CmdWord) : cmdRsv (w &&& 0xEF) = cmdRsv w := by
  rw [cmdRsv, BitVec.extractLsb'_and]
  exact BitVec.and_allOnes

theorem cmdOp_and_modifierMask (w : CmdWord) : cmdOp (w &&& 0xEF) = cmdOp w := by
  rw [cmdOp, BitVec.extractLsb'_and]
  exact BitVec.and_allOnes

/-- A word whose reserved bits are 0 is format C of its modifier and its operation code. -/
theorem cmdWord_of_fields {w : CmdWord} (h : cmdRsv w = 0) : cmdWord (cmdM w) (cmdOp w) = w := by
  have hrsv : 0#3 = w.extractLsb' 5 3 := h.symm
  have hm : BitVec.ofBool (cmdM w) = w.extractLsb' 4 1 := by
    ext i hi
    simp [cmdM, Nat.lt_one_iff.mp hi]
  calc cmdWord (cmdM w) (cmdOp w)
      = w.extractLsb' 5 3 ++ w.extractLsb' 4 1 ++ w.extractLsb' 0 4 := by rw [cmdWord, hrsv, hm, cmdOp]
    _ = w.extractLsb' 4 4 ++ w.extractLsb' 0 4 :=
      congrArg (· ++ w.extractLsb' 0 4) (BitVec.extractLsb'_append_extractLsb'_eq_extractLsb' rfl)
    _ = w.extractLsb' 0 8 := BitVec.extractLsb'_append_extractLsb'_eq_extractLsb' rfl
    _ = w := BitVec.extractLsb'_eq_self

/-! ### The rows of the command table (R63) -/

section

variable {c : CommandPort} {k : CmdWord}

theorem decode_of_modifierMask (h : c.cmd &&& 0xEF = k) :
    decode c = decodeFields (cmdRsv k) (cmdM c.cmd) (cmdOp k).toNat c.argBase c.argTotal c.argBlock := by
  rw [← h, cmdRsv_and_modifierMask, cmdOp_and_modifierMask, decode]

theorem decode_of_fullMask (h : c.cmd &&& 0xFF = k) (hm : cmdM k = false) :
    decode c = decodeFields (cmdRsv k) false (cmdOp k).toNat c.argBase c.argTotal c.argBlock := by
  have hk : c.cmd = k := BitVec.and_allOnes.symm.trans h
  rw [decode, hk, hm]

end

/-- Settles O1: a row's mask fixes the reserved bits and the operation code, and the full mask the whole word. -/
theorem opcodeRowsSelectTheirCommand : Obligations.OpcodeRowsSelectTheirCommand := by
  unfold Obligations.OpcodeRowsSelectTheirCommand
  refine fun c => ⟨fun h => ?init, fun h => ?uninit, fun h => ?setbuf, fun h => ?start, fun h => ?stop, fun h => ?getblock,
    fun h => ?release, fun h => ?getstatus⟩
  case init | start => rw [decode_of_modifierMask h]; rfl
  all_goals rw [decode_of_fullMask h rfl]; rfl

theorem decode_of_selects {r : OpcodeRow} (c : CommandPort) (hr : r ∈ opcodeTable) (hs : r.selects c.cmd = true) :
    ∃ i, decode c = .ok i ∧ i.mnemonic = r.mnemonic := by
  obtain ⟨init, uninit, setbuf, start, stop, getblock, release, getstatus⟩ := opcodeRowsSelectTheirCommand c
  have hmask : c.cmd &&& r.mask = r.pattern := by simpa [OpcodeRow.selects] using hs
  simp only [opcodeTable, List.mem_cons, List.not_mem_nil, or_false] at hr
  obtain rfl | rfl | rfl | rfl | rfl | rfl | rfl | rfl := hr
  · exact ⟨_, init hmask, rfl⟩
  · exact ⟨_, uninit hmask, rfl⟩
  · exact ⟨_, setbuf hmask, rfl⟩
  · exact ⟨_, start hmask, rfl⟩
  · exact ⟨_, stop hmask, rfl⟩
  · exact ⟨_, getblock hmask, rfl⟩
  · exact ⟨_, release hmask, rfl⟩
  · exact ⟨_, getstatus hmask, rfl⟩

/-- The mnemonic column names each row once. -/
theorem row_eq_of_mnemonic_eq :
    ∀ r ∈ opcodeTable, ∀ r' ∈ opcodeTable, r'.mnemonic = r.mnemonic → r' = r := by
  decide

theorem encode_cmd (i : Instr) : (encode i).cmd = cmdWord i.modifier i.op := by
  cases i <;> rfl

theorem exists_row_selects_encode (i : Instr) : ∃ r ∈ opcodeTable, r.selects (encode i).cmd = true := by
  rw [encode_cmd]
  cases i with
  | init m => exact ⟨opcodeTable[0], by decide, by cases m <;> decide⟩
  | uninit => exact ⟨opcodeTable[1], by decide, by decide⟩
  | setbuf => exact ⟨opcodeTable[2], by decide, by rw [Instr.modifier, Instr.op]; decide⟩
  | start m => exact ⟨opcodeTable[3], by decide, by cases m <;> decide⟩
  | stop => exact ⟨opcodeTable[4], by decide, by decide⟩
  | getblock => exact ⟨opcodeTable[5], by decide, by decide⟩
  | release => exact ⟨opcodeTable[6], by decide, by decide⟩
  | getstatus => exact ⟨opcodeTable[7], by decide, by decide⟩

/-! ### Legal and illegal words (R71) -/

@[simp] theorem decodePlain_error_iff (m : Bool) (i : Instr) : (∃ why, decodePlain m i = .error why) ↔ m = true := by
  cases m <;> simp [decodePlain]

@[simp] theorem decodePlain_ok_iff (m : Bool) (i j : Instr) : decodePlain m i = .ok j ↔ m = false ∧ j = i := by
  cases m <;> simp [decodePlain, eq_comm]

/-- The three causes, on the fields of format C. -/
theorem decodeFields_error_iff (rsv : BitVec 3) (m : Bool) (op base total block : Nat) :
    (∃ why, decodeFields rsv m op base total block = .error why) ↔
      rsv ≠ 0 ∨ 8 ≤ op ∨ (m = true ∧ op ≠ 0 ∧ op ≠ 3) := by
  unfold decodeFields
  split
  case isTrue hr =>
    split
    case h_9 =>
      have hop : 8 ≤ op := by
        by_contra hlt
        interval_cases op <;> contradiction
      simp [hop]
    all_goals simp [hr]
  case isFalse hr => exact ⟨fun _ => .inl hr, fun _ => ⟨_, rfl⟩⟩

/-- What the fields of format C spell has these fields in its own command word. -/
theorem decodeFields_ok {rsv : BitVec 3} {m : Bool} {op : BitVec 4} {base total block : Nat} {i : Instr}
    (h : decodeFields rsv m op.toNat base total block = .ok i) : rsv = 0 ∧ m = i.modifier ∧ op = i.op := by
  unfold decodeFields at h
  split at h
  case isTrue hr =>
    refine ⟨hr, ?_⟩
    split at h
    case h_9 => cases h
    case h_1 hop | h_4 hop =>
      cases h
      exact ⟨rfl, BitVec.eq_of_toNat_eq hop⟩
    all_goals
      rename_i hop
      obtain ⟨rfl, rfl⟩ := (decodePlain_ok_iff _ _ _).mp h
      exact ⟨rfl, BitVec.eq_of_toNat_eq hop⟩
  case isFalse => cases h

theorem decode_error_iff (c : CommandPort) : (∃ why, decode c = .error why) ↔ illegalWord c.cmd := by
  rw [decode, decodeFields_error_iff, illegalWord, ne_eq, cmdRsv_eq_zero_iff, cmdOp_toNat, cmdM]

theorem not_illegalWord_of_decode_ok {c : CommandPort} {i : Instr} (h : decode c = .ok i) : ¬ illegalWord c.cmd := by
  rw [← decode_error_iff]
  simp [h]

/-- The command word is the encoding of what it decodes to. -/
theorem encode_cmd_of_decode_ok {c : CommandPort} {i : Instr} (h : decode c = .ok i) : (encode i).cmd = c.cmd := by
  obtain ⟨hrsv, hm, hop⟩ := decodeFields_ok h
  rw [encode_cmd, ← hm, ← hop, cmdWord_of_fields hrsv]

theorem mnemonic_eq_of_selects {c : CommandPort} {i : Instr} {r : OpcodeRow} (h : decode c = .ok i)
    (hr : r ∈ opcodeTable) (hs : r.selects c.cmd = true) : i.mnemonic = r.mnemonic := by
  obtain ⟨j, hj, hname⟩ := decode_of_selects c hr hs
  cases h.symm.trans hj
  exact hname

theorem selects_eq_false_of_decode_error {c : CommandPort} {why : IllegalWord} {r : OpcodeRow}
    (h : decode c = .error why) (hr : r ∈ opcodeTable) : r.selects c.cmd = false := by
  by_contra hs
  obtain ⟨i, hi, -⟩ := decode_of_selects c hr (by simpa using hs)
  cases h.symm.trans hi

/-- Settles O3: a word that decodes is an encoding, which a row selects; every row that selects it has its mnemonic. -/
theorem everyWordSelectsOneRowOrNone : Obligations.EveryWordSelectsOneRowOrNone := by
  unfold Obligations.EveryWordSelectsOneRowOrNone
  intro w base total block
  cases h : decode ⟨w, base, total, block⟩ with
  | ok i =>
    obtain ⟨r, hr, hs⟩ := exists_row_selects_encode i
    rw [encode_cmd_of_decode_ok h] at hs
    have hname := mnemonic_eq_of_selects h hr hs
    have unique : ∀ r' ∈ opcodeTable, r'.selects w = true → r' = r := fun r' hr' hs' =>
      row_eq_of_mnemonic_eq r hr r' hr' ((mnemonic_eq_of_selects h hr' hs').symm.trans hname)
    exact .inl ⟨r, hr, hs, unique, not_illegalWord_of_decode_ok h, i, rfl, hname⟩
  | error why =>
    have none_selects : ∀ r ∈ opcodeTable, r.selects w = false := fun _ hr =>
      selects_eq_false_of_decode_error h hr
    exact .inr ⟨none_selects, (decode_error_iff _).mp ⟨why, h⟩, why, rfl⟩

/-! ### Counting the legal words -/

/-- The ten legal words of the table (R63, R71). -/
def legalWords : List Nat := [0x00, 0x01, 0x02, 0x03, 0x04, 0x05, 0x06, 0x07, 0x10, 0x13]

theorem illegalWord_ofNat_iff {w : Nat} (hw : w < 256) : illegalWord (BitVec.ofNat 8 w) ↔ w ∉ legalWords := by
  rw [illegalWord, getLsbD_modifier_eq_true_iff, BitVec.toNat_ofNat, Nat.mod_eq_of_lt hw]
  simp only [legalWords, List.mem_cons, List.not_mem_nil, or_false]
  omega

theorem isSome_decodeTableWord_iff {w : Nat} (hw : w < 256) :
    (decodeTableWord 8 w).isSome = true ↔ w ∈ legalWords := by
  rw [← not_iff_not, ← illegalWord_ofNat_iff hw, ← decode_error_iff ⟨BitVec.ofNat 8 w, 0, 0, 0⟩, decodeTableWord,
    if_pos ⟨rfl, hw⟩]
  cases decode ⟨BitVec.ofNat 8 w, 0, 0, 0⟩ <;> simp

theorem countP_isSome_decodeTableWord :
    (List.range 256).countP (fun w => (decodeTableWord 8 w).isSome) = 10 := by
  have hperm : ((List.range 256).filter (fun w => (decodeTableWord 8 w).isSome)).Perm legalWords := by
    refine (List.perm_ext_iff_of_nodup (List.nodup_range.filter _) (by decide)).mpr fun w => ?_
    rw [List.mem_filter, List.mem_range]
    constructor
    · exact fun ⟨hw, hs⟩ => (isSome_decodeTableWord_iff hw).mp hs
    · intro hl
      have hw : w < 256 := (by decide : ∀ w ∈ legalWords, w < 256) w hl
      exact ⟨hw, (isSome_decodeTableWord_iff hw).mpr hl⟩
  rw [List.countP_eq_length_filter, hperm.length_eq]
  rfl

/-- The words that are not legal are the rest of the 256. -/
theorem countP_isNone_decodeTableWord :
    (List.range 256).countP (fun w => (decodeTableWord 8 w).isNone) = 246 := by
  have hsum := List.length_eq_countP_add_countP (fun w => (decodeTableWord 8 w).isSome) (l := List.range 256)
  rw [countP_isSome_decodeTableWord, List.length_range] at hsum
  simp only [Bool.not_eq_true, Option.isSome_eq_false_iff, Bool.decide_eq_true] at hsum
  omega

/-! ### The step of a command -/

theorem step_of_command {s : State} {c : CommandPort} {answer : Bool} {rest : List Input}
    (h : s.inputs = .command c answer :: rest) : step s = serveCommand c answer (openStep s rest) := by
  rw [step, serveNext, h]
  rfl

theorem serveCommand_of_illegalWord {c : CommandPort} (hc : illegalWord c.cmd) (answer : Bool) (s : State) :
    serveCommand c answer s = .next (s.answer illegalResponse) := by
  obtain ⟨why, hwhy⟩ := (decode_error_iff (sampleCommand s.params c)).mpr hc
  rw [serveCommand, hwhy]

/-- Settles O2: the causes are those of the decoder, the counts follow from the ten legal words, and a step answers. -/
theorem illegalWordsSpellNoCommand : Obligations.IllegalWordsSpellNoCommand := by
  unfold Obligations.IllegalWordsSpellNoCommand
  rw [← List.countP_eq_length_filter, ← List.countP_eq_length_filter]
  refine ⟨decode_error_iff, countP_isSome_decodeTableWord, countP_isNone_decodeTableWord, ?_⟩
  intro s c answer rest hin hc
  rw [step_of_command hin, serveCommand_of_illegalWord hc]
  rfl

/-! ### The response of each command (R65) -/

/-- The bit positions of R68. -/
theorem statusBits_getLsbD : ∀ active ovfUdf eos : Bool,
    (statusBits active ovfUdf eos).getLsbD 0 = active ∧ (statusBits active ovfUdf eos).getLsbD 1 = ovfUdf ∧
      (statusBits active ovfUdf eos).getLsbD 2 = eos := by
  decide

variable (s : State)

theorem execSetbuf_response (base total block : Nat) :
    ∃ t v, execSetbuf base total block s = .next t ∧ t.rsp = some (resultResponse v) := by
  obtain ⟨-, hx⟩ | ⟨-, -, hx⟩ | ⟨-, -, -, hx⟩ := execSetbuf_cases base total block s <;>
    exact ⟨_, _, hx, rfl⟩

theorem execStart_response (m : Bool) :
    ∃ t v, execStart m s = .next t ∧ t.rsp = some (resultResponse v) := by
  obtain ⟨-, hx⟩ | ⟨-, -, hx⟩ | ⟨-, -, hx⟩ := execStart_cases m s
  · exact ⟨_, _, hx, rfl⟩
  · exact ⟨_, _, hx, rfl⟩
  · exact ⟨_, _, hx, by rw [startSession_eq]⟩

theorem execStop_response : ∃ t, execStop s = .next t ∧ t.rsp = some (resultResponse .ok) := by
  obtain ⟨-, hx⟩ | ⟨-, hx⟩ := execStop_cases s <;> exact ⟨_, hx, rfl⟩

theorem execRelease_response : ∃ t v, execRelease s = .next t ∧ t.rsp = some (resultResponse v) := by
  obtain ⟨-, hx⟩ | ⟨-, hx⟩ := execRelease_cases s <;> exact ⟨_, _, hx, rfl⟩

/-- The option of GETBLOCK: absent, or an address that fits its port. -/
theorem execGetblock_response : ∃ t r, execGetblock s = .next t ∧ t.rsp = some r ∧
    (r = absentResponse ∨ ∃ a, a < 2 ^ s.params.addrW ∧ r = blockResponse a) := by
  obtain ⟨-, hx⟩ | ⟨-, hx⟩ := execGetblock_cases s
  · exact ⟨_, _, hx, rfl, .inl rfl⟩
  · exact ⟨_, _, hx, rfl, .inr ⟨_, Nat.mod_lt _ (Nat.two_pow_pos _), rfl⟩⟩

/-- Settles O36: each command by its own rule. -/
theorem responseSignalsByCommand : Obligations.ResponseSignalsByCommand := by
  unfold Obligations.ResponseSignalsByCommand
  intro i s
  cases i with
  | init m => exact ⟨_, _, rfl, rfl, by simp [resultResponse, resultCode]⟩
  | uninit => exact ⟨_, _, rfl, rfl, by simp [resultResponse, resultCode]⟩
  | setbuf base total block =>
    obtain ⟨t, v, hx, hrsp⟩ := execSetbuf_response s base total block
    exact ⟨t, _, hx, hrsp, by simp [resultResponse]⟩
  | start m =>
    obtain ⟨t, v, hx, hrsp⟩ := execStart_response s m
    exact ⟨t, _, hx, hrsp, by simp [resultResponse]⟩
  | stop =>
    obtain ⟨t, hx, hrsp⟩ := execStop_response s
    exact ⟨t, _, hx, hrsp, by simp [resultResponse, resultCode]⟩
  | getblock =>
    obtain ⟨t, r, hx, hrsp, rfl | ⟨a, ha, rfl⟩⟩ := execGetblock_response s
    · exact ⟨t, _, hx, hrsp, by simp [absentResponse, resultCode]⟩
    · exact ⟨t, _, hx, hrsp, by simp [blockResponse, resultCode, ha]⟩
  | release =>
    obtain ⟨t, v, hx, hrsp⟩ := execRelease_response s
    exact ⟨t, _, hx, hrsp, by simp [resultResponse]⟩
  | getstatus =>
    have hbits := statusBits_getLsbD s.h.active s.h.ovfUdf s.h.eos
    exact ⟨_, _, rfl, rfl, by simpa [statusResponse, resultCode] using hbits⟩

end Sys2Proof.Machine
end

section
/-! The cursor advance, the gray code and the callback's mask (spec/40_comparators_and_flags.md R80 to R83, R85, R91). -/

namespace Sys2Proof.Machine

/-! ### The cursor advance (R80) -/

theorem incMod_eq_mod {i n : Nat} (h : i < n) : incMod i n = (i + 1) % n := by
  unfold incMod
  split
  case isTrue hn => rw [hn, Nat.mod_self]
  case isFalse hn => exact (Nat.mod_eq_of_lt (by omega)).symm

/-- Settles O32: the advance is the remainder, and with one block the only cursor is 0. -/
theorem cursorAdvanceIsModular : Obligations.CursorAdvanceIsModular := by
  unfold Obligations.CursorAdvanceIsModular
  intro i n w _ hi hw
  have hlt := incMod_lt hi
  exact ⟨incMod_eq_mod hi, hlt, by omega, fun hn => by omega⟩

/-! ### The gray code (R82, R83) -/

theorem gray_testBit (a k : Nat) : (gray a).testBit k = (a.testBit k ^^ a.testBit (k + 1)) := by
  rw [gray, Nat.testBit_xor, Nat.testBit_shiftRight, Nat.add_comm]

/-- The code has no bit above the highest bit of the index. -/
theorem gray_lt_two_pow {a w : Nat} (h : a < 2 ^ w) : gray a < 2 ^ w :=
  Nat.xor_lt_two_pow h ((Nat.shiftRight_le a 1).trans_lt h)

/-- The recursion of `ungray`: from the right bit just above them, it finds the `k` lowest bits of the index. -/
theorem ungrayBelow_gray (a k : Nat) : ungrayBelow (gray a) k (a.testBit k) = a % 2 ^ k := by
  induction k with
  | zero => rw [ungrayBelow, pow_zero, Nat.mod_one]
  | succ k ih =>
    have hbit : ((gray a).testBit k ^^ a.testBit (k + 1)) = a.testBit k := by
      rw [gray_testBit, Bool.xor_assoc, Bool.xor_self, Bool.xor_false]
    simp only [ungrayBelow, hbit, ih, Nat.mod_pow_succ]
    rw [Nat.testBit_eq_decide_div_mod_eq]
    obtain h | h := Nat.mod_two_eq_zero_or_one (a / 2 ^ k) <;> simp [h, Nat.add_comm]

theorem ungray_gray {a w : Nat} (h : a < 2 ^ w) : ungray w (gray a) = a := by
  have htop : a.testBit w = false := Nat.testBit_lt_two_pow h
  rw [ungray, ← htop, ungrayBelow_gray, Nat.mod_eq_of_lt h]

/-- Settles O30: the code is injective, `ungray` undoes it, and it stays within the width. -/
theorem grayCodeIsInvertible : Obligations.GrayCodeIsInvertible := by
  unfold Obligations.GrayCodeIsInvertible
  exact fun w a b ha _ => ⟨⟨gray_inj, congrArg gray⟩, ungray_gray ha, gray_lt_two_pow ha⟩

/-! ### The event mask (R69, R91) -/

section

variable (d : Dir) (e : EventWord) (fire : Bool)

/-- The bit positions of R69. -/
theorem eventMask_getLsbD :
    (eventMask d e fire).getLsbD 0 = dataReady e ∧ (eventMask d e fire).getLsbD 1 = (fire && d == .input) ∧
      (eventMask d e fire).getLsbD 2 = (fire && d == .output) ∧ (eventMask d e fire).getLsbD 3 = endOfStream e := by
  rw [eventMask]
  exact (by decide : ∀ eos udf ovf data : Bool,
    let m := BitVec.ofBool eos ++ BitVec.ofBool udf ++ BitVec.ofBool ovf ++ BitVec.ofBool data
    m.getLsbD 0 = data ∧ m.getLsbD 1 = ovf ∧ m.getLsbD 2 = udf ∧ m.getLsbD 3 = eos) _ _ _ _

/-- The detector fires on data only (R85), so it never makes a mask on its own. -/
theorem eventMask_ne_zero_iff (h : fire = true → dataReady e = true) :
    eventMask d e fire ≠ 0 ↔ dataReady e = true ∨ endOfStream e = true := by
  constructor
  · contrapose!
    simp only [ne_eq, Bool.not_eq_true]
    rintro ⟨hd, he⟩
    have hfire : fire = false := by simpa [hd] using h
    simp [eventMask, hd, he, hfire]
  · obtain ⟨hdata, -, -, heos⟩ := eventMask_getLsbD d e fire
    intro hbits hzero
    rw [hzero] at hdata heos
    simp [← hdata, ← heos] at hbits

end

/-! ### The callback of an event (R85, R154) -/

theorem finishEvent_evt (e : EventWord) (fire : Bool) (s : State) :
    (finishEvent e fire s).evt =
      if s.h.cbEn && eventMask s.params.dir e fire != 0 then some (eventMask s.params.dir e fire) else s.evt := by
  simp [finishEvent, callback_evt, endSingle_noteEos_eq]

/-- Whether the detector fires in an event that answers `t`: the cursor `t` holds is the advanced one. -/
def eventFires (e : EventWord) (s t : State) : Bool := ovfUdfFire (dataReady e) t.h.idxProd s.h.idxRel s.h.singleMode

theorem eventFires_eq_true_iff (e : EventWord) (s t : State) : eventFires e s t = true ↔
    dataReady e = true ∧ t.h.idxProd = s.h.idxRel ∧ s.h.singleMode = false := by
  simp [eventFires, and_assoc]

theorem handleEvent_ovfUdf {e : EventWord} {s t : State} (hx : handleEvent e s = .next t) :
    t.h.ovfUdf = (s.h.ovfUdf || eventFires e s t) := by
  obtain ⟨hd, rfl⟩ | ⟨hd, q, -, rfl⟩ := handleEvent_next hx
  · simp [eventFires, hd, endSingle_noteEos_eq]
  · simp [eventFires, hd, endSingle_noteEos_eq, takeData_eq]

theorem handleEvent_evt {e : EventWord} {s t : State} (hx : handleEvent e s = .next t) :
    t.evt = if s.h.cbEn && eventMask s.params.dir e (eventFires e s t) != 0 then
      some (eventMask s.params.dir e (eventFires e s t)) else s.evt := by
  obtain ⟨hd, rfl⟩ | ⟨hd, q, -, rfl⟩ := handleEvent_next hx
  · simp [eventFires, hd, finishEvent_evt, endSingle_noteEos_eq]
  · simp [eventFires, hd, finishEvent_evt, endSingle_noteEos_eq, takeData_eq]

section

variable {e : EventWord} {s t : State} (hnone : s.evt = none) (hx : handleEvent e s = .next t)

include hnone hx

/-- With the event port clear before the event, what it carries afterwards is this event's callback. -/
theorem handleEvent_evt_eq_some_iff (m : EventMask) :
    t.evt = some m ↔ s.h.cbEn = true ∧ m ≠ 0 ∧ m = eventMask s.params.dir e (eventFires e s t) := by
  rw [handleEvent_evt hx, hnone, Option.ite_none_right_eq_some, Bool.and_eq_true, bne_iff_ne, Option.some_inj, and_assoc]
  exact and_congr_right fun _ => ⟨fun ⟨hne, h⟩ => ⟨h ▸ hne, h.symm⟩, fun ⟨hne, h⟩ => ⟨h ▸ hne, h.symm⟩⟩

theorem handleEvent_evt_ne_none_iff :
    t.evt ≠ none ↔ s.h.cbEn = true ∧ (dataReady e = true ∨ endOfStream e = true) := by
  have hdata : eventFires e s t = true → dataReady e = true := fun h => ((eventFires_eq_true_iff e s t).mp h).1
  rw [← eventMask_ne_zero_iff s.params.dir e _ hdata, Option.ne_none_iff_exists']
  simp only [handleEvent_evt_eq_some_iff hnone hx, exists_and_left, exists_eq_right]

end

/-- Settles O28: the mask is that of R91 with the detector of R85, bit by bit. -/
theorem callbackCarriesTheCombinedMask : Obligations.CallbackCarriesTheCombinedMask := by
  unfold Obligations.CallbackCarriesTheCombinedMask
  intro e s t hnone hx
  refine ⟨handleEvent_evt_ne_none_iff hnone hx, fun m hm => ?_⟩
  obtain ⟨-, hne, rfl⟩ := (handleEvent_evt_eq_some_iff hnone hx m).mp hm
  have hfire := eventFires_eq_true_iff e s t
  obtain ⟨hdata, hoverflow, hunderflow, heos⟩ := eventMask_getLsbD s.params.dir e (eventFires e s t)
  rw [hoverflow, hunderflow, handleEvent_ovfUdf hx]
  simp only [Bool.and_eq_true, Bool.or_eq_true, beq_iff_eq]
  refine ⟨hne, hdata, heos, ?overflow, ?underflow, ?sticky⟩
  case overflow | underflow => rw [hfire, and_assoc, and_assoc, dataReady]
  case sticky => exact fun h => .inr (h.elim And.left And.left)

end Sys2Proof.Machine
end

section
/-! The lifecycle commands INIT, UNINIT, SETBUF, START, STOP (spec/41_lifecycle_commands.md R101 to R109), and what a failing
command leaves unchanged (R100). -/

namespace Sys2Proof.Machine

/-! ### INIT and UNINIT (R101, R102) -/

/-- Settles O11: the meaning of INIT has no branch, and each update is a field of the stated state. -/
theorem initStartsAFreshHandle : Obligations.InitStartsAFreshHandle := by
  unfold Obligations.InitStartsAFreshHandle
  exact fun _ _ => ⟨rfl, rfl, rfl⟩

/-- Settles O12: the meaning of UNINIT has no branch, and each update is a field of the stated state. -/
theorem uninitZeroesTheHandle : Obligations.UninitZeroesTheHandle := by
  unfold Obligations.UninitZeroesTheHandle
  exact fun _ => ⟨rfl, rfl, rfl⟩

/-! ### SETBUF (R103, R104) -/

section

variable {base total block : Nat} {s : State}

/-- What the parameter check of SETBUF stops (R103). -/
theorem badBuffer_eq_true_iff :
    badBuffer base total block = true ↔ base = 0 ∨ total = 0 ∨ block = 0 ∨ block > total := by
  simp [badBuffer, or_assoc]

theorem execSetbuf_of_badBuffer (hbad : badBuffer base total block = true) :
    execSetbuf base total block s = .next (s.finish .invalidParameter) :=
  if_pos hbad

theorem execSetbuf_of_wrongState (hgood : badBuffer base total block = false)
    (hstate : s.h.initialized = false ∨ s.h.active = true) :
    execSetbuf base total block s = .next (s.finish .invalidState) := by
  have hcheck : (!s.h.initialized || s.h.active) = true := by simpa using hstate
  rw [execSetbuf, hgood, if_neg Bool.false_ne_true, if_pos hcheck]

theorem execSetbuf_of_accepted (hgood : badBuffer base total block = false) (hi : s.h.initialized = true)
    (ha : s.h.active = false) :
    execSetbuf base total block s = .next (((s.setHandle (attachBuffer base total block s.h)).emit
      [.write .dmaAddress (.num base), .write .dmaBlockNum (.num (total / block)),
        .write .dmaBlockSize (.num block), .barrier]).finish .ok) := by
  simp [execSetbuf, hgood, hi, ha]

end

/-- Settles O13: the parameter check alone decides the first answer, and the state check is reached only behind it. -/
theorem setbufChecksParametersThenState : Obligations.SetbufChecksParametersThenState := by
  unfold Obligations.SetbufChecksParametersThenState
  intro base total block s
  rw [← badBuffer_eq_true_iff, Bool.not_eq_true]
  exact ⟨execSetbuf_of_badBuffer, execSetbuf_of_wrongState⟩

/-- Settles O14: with both checks passed the buffer is attached. -/
theorem setbufAttachesTheBuffer : Obligations.SetbufAttachesTheBuffer := by
  unfold Obligations.SetbufAttachesTheBuffer
  intro base total block s hbase htotal hblock hle hi ha
  exact execSetbuf_of_accepted (badBuffer_false.mpr ⟨hbase, htotal, hblock, hle⟩) hi ha

/-! ### START (R105 to R108) -/

section

variable {d : Dir} {h : Handle}

/-- The causes of START's failure checks (R105, R89). -/
theorem startRefused_eq_true_iff :
    startRefused d h = true ↔ h.initialized = false ∨ h.bufSet = false ∨
      (d = .input ∧ h.bufferFull = true) ∨ (d = .output ∧ h.bufferEmpty = true) := by
  cases d <;> simp [startRefused, pointless, or_assoc]

/-- What START's failure checks let through. -/
theorem startRefused_eq_false_iff :
    startRefused d h = false ↔ h.initialized = true ∧ h.bufSet = true ∧
      (d = .input → h.bufferFull = false) ∧ (d = .output → h.bufferEmpty = false) := by
  cases d <;> simp [startRefused, pointless, and_assoc]

end

section

variable {m : Bool} {s : State}

theorem execStart_of_refused (hr : startRefused s.params.dir s.h = true) :
    execStart m s = .next (s.finish .invalidState) :=
  if_pos hr

theorem execStart_of_active (hr : startRefused s.params.dir s.h = false) (ha : s.h.active = true) :
    execStart m s = .next (s.finish .ok) := by
  simp [execStart, hr, ha]

theorem execStart_of_inactive (hr : startRefused s.params.dir s.h = false) (ha : s.h.active = false) :
    execStart m s = .next (startSession m s) := by
  simp [execStart, hr, ha]

end

theorem dirBit_eq (d : Dir) : dirBit d = if d = .input then .dirP2M else .dirM2P := by
  cases d <;> rfl

/-- Settles O15: the stated causes are those of the failure checks, which come first. -/
theorem startIsRefusedInTheWrongState : Obligations.StartIsRefusedInTheWrongState := by
  unfold Obligations.StartIsRefusedInTheWrongState
  exact fun _ _ hcause => execStart_of_refused (startRefused_eq_true_iff.mpr hcause)

/-- Settles O16: behind the failure checks the already-active test only answers. -/
theorem startWhileActiveIsANoOp : Obligations.StartWhileActiveIsANoOp := by
  unfold Obligations.StartWhileActiveIsANoOp
  exact fun _ _ hi hb hfull hempty ha =>
    execStart_of_active (startRefused_eq_false_iff.mpr ⟨hi, hb, hfull, hempty⟩) ha

/-- Settles O17: behind both tests START is `startSession`, whose two outcomes are those of the peripheral's answer. -/
theorem startProgramsAndVerifies : Obligations.StartProgramsAndVerifies := by
  unfold Obligations.StartProgramsAndVerifies
  intro m s hi hb hfull hempty ha
  have hx : exec (.start m) s = .next (startSession m s) :=
    execStart_of_inactive (startRefused_eq_false_iff.mpr ⟨hi, hb, hfull, hempty⟩) ha
  rw [hx, startSession_eq, startWrites, dirBit_eq]
  constructor <;> intro hp <;> rw [hp] <;> rfl

/-! ### STOP (R109) -/

/-- Settles O18: the one test of STOP is on `active`. -/
theorem stopEndsTheSession : Obligations.StopEndsTheSession := by
  unfold Obligations.StopEndsTheSession
  exact fun _ => ⟨fun ha => if_pos ha, fun ha => if_neg (Bool.eq_false_iff.mp ha)⟩

/-! ### A command that fails (R100) -/

/-- The command that `x` is the answer of, run in `s`, completes, and when it fails it has changed the response only. -/
def FailsWithoutEffect (s : State) (x : Answer) : Prop :=
  ∃ t r, x = .next t ∧ t.rsp = some r ∧ (r.code ≠ 0 → t = { s with rsp := some r })

theorem failsWithoutEffect_finish (s : State) (v : Result) : FailsWithoutEffect s (.next (s.finish v)) :=
  ⟨_, _, rfl, rfl, fun _ => rfl⟩

/-- A command that does not fail may have changed anything. -/
theorem failsWithoutEffect_of_ok (s : State) {t : State} {r : Response} (hrsp : t.rsp = some r) (hok : r.code = 0) :
    FailsWithoutEffect s (.next t) :=
  ⟨t, r, rfl, hrsp, fun hfail => absurd hok hfail⟩

section

variable (s : State)

theorem execSetbuf_failsWithoutEffect (base total block : Nat) :
    FailsWithoutEffect s (execSetbuf base total block s) := by
  obtain ⟨-, hx⟩ | ⟨-, -, hx⟩ | ⟨-, -, -, hx⟩ := execSetbuf_cases base total block s <;> rw [hx]
  · exact failsWithoutEffect_finish s .invalidParameter
  · exact failsWithoutEffect_finish s .invalidState
  · exact failsWithoutEffect_of_ok s rfl rfl

theorem execStop_failsWithoutEffect : FailsWithoutEffect s (execStop s) := by
  obtain ⟨t, hx, hrsp⟩ := execStop_response s
  rw [hx]
  exact failsWithoutEffect_of_ok s hrsp rfl

theorem execGetblock_failsWithoutEffect : FailsWithoutEffect s (execGetblock s) := by
  obtain ⟨-, hx⟩ | ⟨-, hx⟩ := execGetblock_cases s <;> rw [hx] <;> exact failsWithoutEffect_of_ok s rfl rfl

theorem execRelease_failsWithoutEffect : FailsWithoutEffect s (execRelease s) := by
  obtain ⟨-, hx⟩ | ⟨-, hx⟩ := execRelease_cases s <;> rw [hx]
  · exact failsWithoutEffect_finish s .invalidState
  · exact failsWithoutEffect_of_ok s rfl rfl

/-- A START that ends in DeviceError: the mode and the register writes stay (R108). -/
def EndsInDeviceError (m : Bool) (s : State) (x : Answer) : Prop :=
  ∃ t, x = .next t ∧ t.rsp = some (resultResponse .deviceError) ∧ t.h = { s.h with singleMode := m } ∧
    t.trace = s.trace ++ startWrites s.params.dir m (intervalUs s.params.cfg s.h.blockSize s.trace.length)

/-- Behind its checks START fails only when the peripheral does not confirm the session; then `active`, which was false, is false
again. -/
theorem execStart_failsWithoutEffect_or_deviceError (m : Bool) :
    FailsWithoutEffect s (execStart m s) ∨ EndsInDeviceError m s (execStart m s) := by
  obtain ⟨-, hx⟩ | ⟨-, -, hx⟩ | ⟨-, ha, hx⟩ := execStart_cases m s <;> rw [hx]
  · exact .inl (failsWithoutEffect_finish s .invalidState)
  · exact .inl (failsWithoutEffect_finish s .ok)
  · rw [startSession_eq]
    cases hp : s.periphActive with
    | true => exact .inl (failsWithoutEffect_of_ok s rfl rfl)
    | false => exact .inr ⟨_, rfl, rfl, by rw [← ha], rfl⟩

end

/-- The rule of R100 with its one exception. -/
theorem exec_failsWithoutEffect_or_deviceError (i : Instr) (s : State) :
    FailsWithoutEffect s (exec i s) ∨ ∃ m, i = .start m ∧ EndsInDeviceError m s (exec (.start m) s) := by
  cases i with
  | init m => exact .inl (failsWithoutEffect_of_ok s rfl rfl)
  | uninit => exact .inl (failsWithoutEffect_of_ok s rfl rfl)
  | setbuf base total block => exact .inl (execSetbuf_failsWithoutEffect s base total block)
  | start m => exact (execStart_failsWithoutEffect_or_deviceError s m).imp_right fun h => ⟨m, rfl, h⟩
  | stop => exact .inl (execStop_failsWithoutEffect s)
  | getblock => exact .inl (execGetblock_failsWithoutEffect s)
  | release => exact .inl (execRelease_failsWithoutEffect s)
  | getstatus => exact .inl (failsWithoutEffect_of_ok s rfl rfl)

/-- Settles O34: a START that ends in DeviceError is the only command that fails with an effect. -/
theorem failingCommandsChangeNothing : Obligations.FailingCommandsChangeNothing := by
  unfold Obligations.FailingCommandsChangeNothing
  intro i s
  obtain ⟨t, r, hx, hrsp, hsame⟩ | ⟨m, rfl, t, hx, hrsp, hh, htrace⟩ := exec_failsWithoutEffect_or_deviceError i s
  · exact ⟨t, r, hx, hrsp, fun hfail => .inl (hsame hfail)⟩
  · exact ⟨t, _, hx, hrsp, fun _ => .inr ⟨m, rfl, rfl, hh, htrace⟩⟩

end Sys2Proof.Machine
end

section
/-! The block commands GETBLOCK, RELEASE, GETSTATUS (spec/42_block_commands.md R120 to R124), and what every command answers in the
Uninitialized state (R125). -/

namespace Sys2Proof.Machine

/-! ### GETBLOCK (R120, R121) -/

section

variable {d : Dir} {h : Handle}

/-- The causes of GETBLOCK's refusal (R120). -/
theorem getRefused_eq_true_iff :
    getRefused d h = true ↔ h.bufSet = false ∨ (d = .input ∧ h.bufferEmpty = true) ∨ h.limitOwned = true := by
  simp [getRefused, or_assoc]

/-- What GETBLOCK's refusal conditions let through. -/
theorem getRefused_eq_false_iff :
    getRefused d h = false ↔ h.bufSet = true ∧ (d = .input → h.bufferEmpty = false) ∧ h.limitOwned = false := by
  cases d <;> simp [getRefused, and_assoc]

/-- From a handle that does not hold every block, the limit flag after the acquisition is exactly the parity of R87. -/
theorem acquireBlock_eq (d : Dir) (hl : h.limitOwned = false) :
    acquireBlock d h = { h with
      idxGet := incMod h.idxGet h.blockCount
      limitOwned := decide (incMod h.idxGet h.blockCount = h.idxRel)
      bufferEmpty := if d = .input ∧ incMod h.idxGet h.blockCount = h.idxProd then true else h.bufferEmpty
      bufferFull := false } := by
  simp [acquireBlock, hl]

end

section

variable {s : State}

theorem execGetblock_of_refused (hr : getRefused s.params.dir s.h = true) :
    execGetblock s = .next (s.answer absentResponse) :=
  if_pos hr

theorem execGetblock_of_accepted (hr : getRefused s.params.dir s.h = false) :
    execGetblock s = .next ((s.setHandle (acquireBlock s.params.dir s.h)).answer
      (blockResponse (blkAddr s.params s.h s.h.idxGet))) :=
  if_neg (Bool.eq_false_iff.mp hr)

end

/-- Settles O19: the stated causes are those of the refusal conditions. -/
theorem getblockAnswersAbsent : Obligations.GetblockAnswersAbsent := by
  unfold Obligations.GetblockAnswersAbsent
  exact fun _ hcause => execGetblock_of_refused (getRefused_eq_true_iff.mpr hcause)

/-- Settles O20: behind the refusal conditions the limit flag is clear, so its new value is the parity. -/
theorem getblockHandsOutTheNextBlock : Obligations.GetblockHandsOutTheNextBlock := by
  unfold Obligations.GetblockHandsOutTheNextBlock
  intro s hb hempty hl
  have hx : exec .getblock s = _ := execGetblock_of_accepted (getRefused_eq_false_iff.mpr ⟨hb, hempty, hl⟩)
  rw [hx, acquireBlock_eq _ hl]
  rfl

/-! ### RELEASE (R122, R123) -/

section

variable {h : Handle}

/-- The causes of RELEASE's failure checks (R122, R88). -/
theorem releaseRefused_eq_true_iff :
    releaseRefused h = true ↔ h.bufSet = false ∨ (h.idxRel = h.idxGet ∧ h.limitOwned = false) := by
  simp [releaseRefused]

/-- What RELEASE's failure checks let through. -/
theorem releaseRefused_eq_false_iff :
    releaseRefused h = false ↔ h.bufSet = true ∧ ¬(h.idxRel = h.idxGet ∧ h.limitOwned = false) := by
  rw [← Bool.not_eq_true, releaseRefused_eq_true_iff, not_or, Bool.not_eq_false]

/-- The two directions of `giveBack` as one record: each clears the flag of its own direction (R123). -/
theorem giveBack_eq (d : Dir) (h : Handle) :
    giveBack d h = { h with
      idxRel := incMod h.idxRel h.blockCount
      limitOwned := false
      bufferFull := if d = .input then false else h.bufferFull
      bufferEmpty := if d = .output then false else h.bufferEmpty } := by
  cases d <;> rfl

end

section

variable {s : State}

theorem execRelease_of_refused (hr : releaseRefused s.h = true) : execRelease s = .next (s.finish .invalidState) :=
  if_pos hr

theorem execRelease_of_accepted (hr : releaseRefused s.h = false) :
    execRelease s = .next ((s.setHandle (giveBack s.params.dir s.h)).finish .ok) :=
  if_neg (Bool.eq_false_iff.mp hr)

end

/-- Settles O21: the stated causes are those of the failure checks. -/
theorem releaseOfNothingIsRefused : Obligations.ReleaseOfNothingIsRefused := by
  unfold Obligations.ReleaseOfNothingIsRefused
  exact fun _ hcause => execRelease_of_refused (releaseRefused_eq_true_iff.mpr hcause)

/-- Settles O22: behind the failure checks the handle after RELEASE is `giveBack`, in either direction. -/
theorem releaseGivesTheOldestBlockBack : Obligations.ReleaseGivesTheOldestBlockBack := by
  unfold Obligations.ReleaseGivesTheOldestBlockBack
  intro s hb hheld
  have hx : exec .release s = _ := execRelease_of_accepted (releaseRefused_eq_false_iff.mpr ⟨hb, hheld⟩)
  rw [hx, giveBack_eq]
  rfl

/-! ### GETSTATUS (R124) -/

/-- Settles O23: the status of the answer is `statusBits`, whose positions are those of R68. -/
theorem getstatusReadsAndClears : Obligations.GetstatusReadsAndClears := by
  unfold Obligations.GetstatusReadsAndClears
  intro s
  obtain ⟨hactive, hovfUdf, heos⟩ := statusBits_getLsbD s.h.active s.h.ovfUdf s.h.eos
  exact ⟨_, hactive, hovfUdf, heos, rfl⟩

/-! ### The Uninitialized state (R125) -/

section

variable {s : State} (hz : s.h = Handle.zero)

include hz

theorem execStart_of_zero (m : Bool) : execStart m s = .next (s.finish .invalidState) :=
  execStart_of_refused (startRefused_eq_true_iff.mpr (.inl (by rw [hz]; rfl)))

theorem execStop_of_zero : execStop s = .next (s.finish .ok) :=
  if_neg (by rw [hz]; exact Bool.false_ne_true)

theorem execGetblock_of_zero : execGetblock s = .next (s.answer absentResponse) :=
  execGetblock_of_refused (getRefused_eq_true_iff.mpr (.inl (by rw [hz]; rfl)))

theorem execRelease_of_zero : execRelease s = .next (s.finish .invalidState) :=
  execRelease_of_refused (releaseRefused_eq_true_iff.mpr (.inl (by rw [hz]; rfl)))

/-- There is no sticky flag to clear, and every status bit is 0. -/
theorem execGetstatus_of_zero : execGetstatus s = .next (s.answer (statusResponse 0)) := by
  have hh : { s.h with ovfUdf := false, eos := false } = s.h := by
    rw [hz]
    rfl
  have hclear : s.setHandle { s.h with ovfUdf := false, eos := false } = s := by
    rw [hh]
    rfl
  rw [execGetstatus, hclear, hz]
  rfl

/-- The parameters are checked before the state (R103). -/
theorem execSetbuf_of_zero (base total block : Nat) : execSetbuf base total block s = .next
    (s.finish (if base = 0 ∨ total = 0 ∨ block = 0 ∨ block > total then .invalidParameter else .invalidState)) := by
  simp only [← badBuffer_eq_true_iff]
  cases hbad : badBuffer base total block with
  | true => exact execSetbuf_of_badBuffer hbad
  | false => exact execSetbuf_of_wrongState hbad (.inl (by rw [hz]; rfl))

end

/-- Settles O37: INIT writes a fresh handle, UNINIT the zero handle again, and the others only answer. -/
theorem answersWhenUninitialized : Obligations.AnswersWhenUninitialized := by
  unfold Obligations.AnswersWhenUninitialized
  intro i s hz
  cases i with
  | init m => exact ⟨_, _, rfl, rfl, rfl, rfl, rfl⟩
  | uninit => exact ⟨_, _, rfl, rfl, rfl, hz.symm⟩
  | setbuf base total block =>
    exact ⟨_, _, execSetbuf_of_zero hz base total block, rfl, by split <;> rfl, rfl⟩
  | start m => exact ⟨_, _, execStart_of_zero hz m, rfl, rfl, rfl⟩
  | stop => exact ⟨_, _, execStop_of_zero hz, rfl, rfl, rfl⟩
  | getblock => exact ⟨_, _, execGetblock_of_zero hz, rfl, rfl, rfl⟩
  | release => exact ⟨_, _, execRelease_of_zero hz, rfl, rfl, rfl⟩
  | getstatus => exact ⟨_, _, execGetstatus_of_zero hz, rfl, rfl, rfl⟩

end Sys2Proof.Machine
end

section
/-! The completion interrupt (spec/60_exceptions.md R147 to R157): the whole next state of the handler and its two faults. -/

namespace Sys2Proof.Machine

/-! ### The advance of the producer cursor (R149, R157) -/

section

variable {p : Params} {e : EventWord} {h : Handle} {q : Nat}

/-- With a buffer attached, both strategies give the cursor they name (R149). -/
theorem producerAdvance_eq_ok (hb : h.bufSet = true)
    (hq : p.prodAdvance = .selfIncrement ∧ q = incMod h.idxProd h.blockCount ∨
      p.prodAdvance = .adoptIndex ∧ e.blkIndex < h.blockCount ∧ q = e.blkIndex) :
    producerAdvance p e h = .ok q := by
  obtain ⟨hp, rfl⟩ | ⟨hp, hlt, rfl⟩ := hq
  · simp [producerAdvance, hb, hp]
  · simp [producerAdvance, hb, hp, hlt]

theorem producerAdvance_of_noBuffer (hb : h.bufSet = false) : producerAdvance p e h = .error .evtNoBuffer :=
  if_neg (Bool.eq_false_iff.mp hb)

theorem producerAdvance_of_indexOutOfRange (hb : h.bufSet = true) (hp : p.prodAdvance = .adoptIndex)
    (hge : h.blockCount ≤ e.blkIndex) : producerAdvance p e h = .error .evtBadIndex := by
  simp [producerAdvance, hb, hp, hge]

end

/-! ### The branches of the handler (R148, R149) -/

section

variable {e : EventWord} {s : State}

theorem handleEvent_of_noData (hd : dataReady e = false) :
    handleEvent e s = .next (finishEvent e false (acknowledge s)) :=
  if_neg (Bool.eq_false_iff.mp hd)

theorem handleEvent_of_advance {q : Nat} (hd : dataReady e = true) (hq : producerAdvance s.params e s.h = .ok q) :
    handleEvent e s = .next (finishEvent e (ovfUdfFire true q s.h.idxRel s.h.singleMode)
      ((acknowledge s).setHandle (takeData s.params.dir q s.h))) := by
  simp [handleEvent, hd, hq]

theorem handleEvent_of_fault {f : Fault} (hd : dataReady e = true) (hf : producerAdvance s.params e s.h = .error f) :
    handleEvent e s = .fault f := by
  simp [handleEvent, hd, hf]

end

/-! ### Steps 3 to 5 as one update (R152 to R154, R159) -/

section

variable (e : EventWord) (fire : Bool) (s : State)

/-- An event spends one, and caps what is left when it ends an active Single session (R159, log 11). -/
theorem spendEvent_eq : spendEvent s = { s with
    budget :=
      if s.h.active = true ∧ s.h.singleMode = true then s.budget.spend.cap s.params.envLateMax else s.budget.spend } := by
  simp only [← Bool.and_eq_true, ← spendEvent_budget]
  unfold spendEvent
  dsimp only
  split <;> rfl

theorem finishEvent_eq : finishEvent e fire s = callback (eventMask s.params.dir e fire) { s with
    h := { s.h with
      eos := s.h.eos || endOfStream e
      active := s.h.active && !s.h.singleMode }
    budget :=
      if s.h.active = true ∧ s.h.singleMode = true then s.budget.spend.cap s.params.envLateMax else s.budget.spend } := by
  rw [finishEvent, endSingle_noteEos_eq, spendEvent_eq]
  rfl

end

/-! ### The callback by the kind of event (R69, R91, R154) -/

section

variable {e : EventWord} (d : Dir) (s : State)

theorem callback_eq (mask : EventMask) : callback mask s = { s with
    evt := if s.h.cbEn = true ∧ mask ≠ 0 then some mask else s.evt } := by
  simp only [← bne_iff_ne, ← Bool.and_eq_true, ← callback_evt]
  unfold callback
  split <;> rfl

/-- Without data the only bit that can be set is that of the end of stream. -/
theorem eventMask_of_noData (hd : dataReady e = false) :
    eventMask d e false = if endOfStream e = true then 0b1000 else 0 := by
  cases he : endOfStream e <;> simp [eventMask, hd, he]

theorem callback_of_noData (hd : dataReady e = false) : callback (eventMask d e false) s = { s with
    evt := if s.h.cbEn = true ∧ endOfStream e = true then some 0b1000 else s.evt } := by
  rw [callback_eq, eventMask_of_noData d hd]
  cases endOfStream e <;> simp

/-- With data the mask is never empty, so a registered callback is always made. -/
theorem callback_of_data (fire : Bool) (hd : dataReady e = true) : callback (eventMask d e fire) s = { s with
    evt :=
      if s.h.cbEn = true then
        some (BitVec.ofBool (endOfStream e) ++ BitVec.ofBool (fire && decide (d = .output)) ++
          BitVec.ofBool (fire && decide (d = .input)) ++ 1#1)
      else s.evt } := by
  have hmask : eventMask d e fire ≠ 0 := (eventMask_ne_zero_iff d e fire fun _ => hd).mpr (.inl hd)
  simp only [callback_eq, hmask, ne_eq, not_false_eq_true, and_true]
  rw [eventMask, hd]
  rfl

end

/-! ### The next state, and the faults -/

/-- Settles O24: the event is acknowledged and steps 3 to 5 run, with a mask that is empty or end of stream alone. -/
theorem eventWithoutDataRunsTheHandler : Obligations.EventWithoutDataRunsTheHandler := by
  unfold Obligations.EventWithoutDataRunsTheHandler
  intro e s (hd : dataReady e = false)
  rw [handleEvent_of_noData hd, finishEvent_eq, callback_of_noData _ _ hd]
  rfl

/-- Settles O25: the cursor advances, so the data steps run before steps 3 to 5, with a mask that holds the data bit at least. -/
theorem eventWithDataRunsTheHandler : Obligations.EventWithDataRunsTheHandler := by
  unfold Obligations.EventWithDataRunsTheHandler
  intro e s q (hd : dataReady e = true) hb hq
  rw [handleEvent_of_advance hd (producerAdvance_eq_ok hb hq), finishEvent_eq, callback_of_data _ _ _ hd, takeData_eq,
    ovfUdfFire_eq]
  rfl

/-- Settles O26: the two errors of the cursor advance are the two faults, and an event without data does not reach it. -/
theorem eventFaultsByName : Obligations.EventFaultsByName := by
  unfold Obligations.EventFaultsByName
  intro e s
  refine ⟨fun hd hb => ?noBuffer, fun hd hb hp hge => ?badIndex, fun hd _ => ?noData⟩
  case noBuffer => exact handleEvent_of_fault hd (producerAdvance_of_noBuffer hb)
  case badIndex => exact handleEvent_of_fault hd (producerAdvance_of_indexOutOfRange hb hp hge)
  case noData => exact ⟨_, eventWithoutDataRunsTheHandler e s hd, rfl, rfl, rfl⟩

end Sys2Proof.Machine
end

section
/-! The result of each command (spec/60_exceptions.md R140 to R143) and the environment budget (R159). -/

namespace Sys2Proof.Machine

/-! ### The causes of each result code (R141 to R143) -/

section

variable {s t : State} {r : Response} (hrsp : t.rsp = some r)

include hrsp

theorem execSetbuf_code {base total block : Nat} (hx : execSetbuf base total block s = .next t) :
    (r.code = 1#2 ↔ badBuffer base total block = true) ∧
      (r.code = 2#2 ↔ badBuffer base total block = false ∧ (s.h.initialized = false ∨ s.h.active = true)) ∧
      r.code ≠ 3#2 := by
  obtain ⟨hbad, hx'⟩ | ⟨hgood, hstate, hx'⟩ | ⟨hgood, hi, ha, hx'⟩ := execSetbuf_cases base total block s <;>
    cases hx.symm.trans hx' <;> cases hrsp
  · simp [resultResponse, resultCode, hbad]
  · simp [resultResponse, resultCode, hgood, hstate]
  · simp [resultResponse, resultCode, hgood, hi, ha]

theorem execStart_code {m : Bool} (hx : execStart m s = .next t) :
    r.code ≠ 1#2 ∧ (r.code = 2#2 ↔ startRefused s.params.dir s.h = true) ∧
      (r.code = 3#2 ↔ startRefused s.params.dir s.h = false ∧ s.h.active = false ∧ s.periphActive = false ∧
        t.trace = s.trace ++ startWrites s.params.dir m (intervalUs s.params.cfg s.h.blockSize s.trace.length)) := by
  obtain ⟨hr, hx'⟩ | ⟨hr, ha, hx'⟩ | ⟨hr, ha, hx'⟩ := execStart_cases m s <;> cases hx.symm.trans hx'
  · cases hrsp
    simp [resultResponse, resultCode, hr]
  · cases hrsp
    simp [resultResponse, resultCode, hr, ha]
  · rw [startSession_eq] at hrsp ⊢
    cases hrsp
    cases hp : s.periphActive <;> simp [resultResponse, resultCode, hr, ha]

theorem execRelease_code (hx : execRelease s = .next t) :
    r.code ≠ 1#2 ∧ (r.code = 2#2 ↔ releaseRefused s.h = true) ∧ r.code ≠ 3#2 := by
  obtain ⟨hr, hx'⟩ | ⟨hr, hx'⟩ := execRelease_cases s <;> cases hx.symm.trans hx' <;> cases hrsp
  · simp [resultResponse, resultCode, hr]
  · simp [resultResponse, resultCode, hr]

/-- Only the commands with failure checks can answer another result than Ok. -/
theorem exec_code_eq_zero_or {i : Instr} (hx : exec i s = .next t) :
    (∃ base total block, i = .setbuf base total block) ∨ (∃ m, i = .start m) ∨ i = .release ∨ r.code = 0#2 := by
  obtain ⟨t', r', hx', hrsp', -, hok, -, hget, hstatus⟩ := responseSignalsByCommand i s
  cases hx.symm.trans hx'
  cases hrsp.symm.trans hrsp'
  cases i with
  | setbuf base total block => exact .inl ⟨_, _, _, rfl⟩
  | start m => exact .inr (.inl ⟨m, rfl⟩)
  | release => exact .inr (.inr (.inl rfl))
  | init m => simp [hok (.inl ⟨m, rfl⟩)]
  | uninit => simp [hok (.inr (.inl rfl))]
  | stop => simp [hok (.inr (.inr rfl))]
  | getblock => simp [hget rfl]
  | getstatus => simp [hstatus rfl]

end

/-- Settles O35: the three commands with failure checks by their own rules, and the others answer Ok. -/
theorem resultsHaveExactlyTheirCauses : Obligations.ResultsHaveExactlyTheirCauses := by
  unfold Obligations.ResultsHaveExactlyTheirCauses
  intro i s t r hx hrsp
  cases i with
  | setbuf base total block =>
    obtain ⟨hparameter, hstate, hdevice⟩ := execSetbuf_code hrsp hx
    simp [hparameter, hstate, hdevice, badBuffer_eq_true_iff, badBuffer_false]
  | start m =>
    obtain ⟨hparameter, hstate, hdevice⟩ := execStart_code hrsp hx
    simp [hparameter, hstate, hdevice, startRefused_eq_true_iff, startRefused_eq_false_iff, and_assoc]
  | release =>
    obtain ⟨hparameter, hstate, hdevice⟩ := execRelease_code hrsp hx
    simp [hparameter, hstate, hdevice, releaseRefused_eq_true_iff]
  | init | uninit | stop | getblock | getstatus =>
    have hok : r.code = 0#2 := by simpa using exec_code_eq_zero_or hrsp hx
    simp [hok]

/-! ### The environment budget (R159) -/

/-- What a step makes of the budget, said for each of its two kinds. -/
theorem Budget.forall_kinds {f : Budget → Budget} {b c : Budget} (h : c = f b) :
    (b = .unbounded → c = f .unbounded) ∧ ∀ n, b = .num n → c = f (.num n) :=
  ⟨fun hb => hb ▸ h, fun _ hb => hb ▸ h⟩

section

variable {s t : State}

/-- A START that has written its registers has begun a session, whatever the peripheral answers (R107, R108). -/
theorem execStart_budget_of_writes {m : Bool} {r : Response} (hx : execStart m s = .next t) (hrsp : t.rsp = some r)
    (hwrites : t.trace ≠ s.trace) : t.budget = if r.code = 0 then .unbounded else .num s.params.envLateMax := by
  obtain ⟨-, hx'⟩ | ⟨-, -, hx'⟩ | ⟨-, -, hx'⟩ := execStart_cases m s <;> cases hx.symm.trans hx'
  · exact absurd rfl hwrites
  · exact absurd rfl hwrites
  · rw [startSession_eq] at hrsp ⊢
    cases hrsp
    cases hp : s.periphActive <;> simp

/-- START writes its registers exactly when it begins a session. -/
theorem execStart_budget_of_noWrites {m : Bool} (hx : execStart m s = .next t) (hnone : t.trace = s.trace) :
    t.budget = s.budget := by
  obtain ⟨-, hx'⟩ | ⟨-, -, hx'⟩ | ⟨-, -, hx'⟩ := execStart_cases m s <;> cases hx.symm.trans hx'
  · rfl
  · rfl
  · simp [startSession_eq, startWrites] at hnone

theorem execStop_budget_of_active (hx : execStop s = .next t) (ha : s.h.active = true) :
    t.budget = s.budget.cap s.params.envLateMax := by
  cases hx.symm.trans (if_pos ha)
  rfl

theorem execStop_budget_of_noWrites (hx : execStop s = .next t) (hnone : t.trace = s.trace) :
    t.budget = s.budget := by
  obtain ⟨-, hx'⟩ | ⟨-, hx'⟩ := execStop_cases s <;> cases hx.symm.trans hx'
  · rfl
  · simp at hnone

theorem execSetbuf_budget {base total block : Nat} (hx : execSetbuf base total block s = .next t) :
    t.budget = s.budget := by
  obtain ⟨-, hx'⟩ | ⟨-, -, hx'⟩ | ⟨-, -, -, hx'⟩ := execSetbuf_cases base total block s <;>
    cases hx.symm.trans hx' <;> rfl

theorem execGetblock_budget (hx : execGetblock s = .next t) : t.budget = s.budget := by
  obtain ⟨-, hx'⟩ | ⟨-, hx'⟩ := execGetblock_cases s <;> cases hx.symm.trans hx' <;> rfl

theorem execRelease_budget (hx : execRelease s = .next t) : t.budget = s.budget := by
  obtain ⟨-, hx'⟩ | ⟨-, hx'⟩ := execRelease_cases s <;> cases hx.symm.trans hx' <;> rfl

/-- The commands that stop the peripheral. -/
theorem exec_budget_of_stops {i : Instr} (hx : exec i s = .next t) (hi : (i = .stop ∧ s.h.active = true) ∨ i = .uninit) :
    t.budget = s.budget.cap s.params.envLateMax := by
  obtain ⟨rfl, ha⟩ | rfl := hi
  · exact execStop_budget_of_active hx ha
  · cases hx
    rfl

/-- The other commands change the budget only together with the trace. -/
theorem exec_budget_of_noSession {i : Instr} (hx : exec i s = .next t) (hi : i ≠ .uninit)
    (h : t.trace = s.trace ∨ (∃ m, i = .init m) ∨ (∃ b n k, i = .setbuf b n k)) : t.budget = s.budget := by
  cases i with
  | init m => cases hx; rfl
  | uninit => exact absurd rfl hi
  | setbuf base total block => exact execSetbuf_budget hx
  | start m => exact execStart_budget_of_noWrites hx (by simpa using h)
  | stop => exact execStop_budget_of_noWrites hx (by simpa using h)
  | getblock => exact execGetblock_budget hx
  | release => exact execRelease_budget hx
  | getstatus => cases hx; rfl

theorem handleEvent_budget {e : EventWord} (hx : handleEvent e s = .next t) : t.budget =
    if s.h.active = true ∧ s.h.singleMode = true then s.budget.spend.cap s.params.envLateMax else s.budget.spend := by
  obtain ⟨-, rfl⟩ | ⟨-, q, -, rfl⟩ := handleEvent_next hx
  · rw [finishEvent_budget, spendEvent_eq]
    rfl
  · rw [finishEvent_budget, spendEvent_eq, takeData_eq]
    rfl

theorem handleEvent_active {e : EventWord} (hx : handleEvent e s = .next t) :
    t.h.active = (s.h.active && !s.h.singleMode) := by
  obtain ⟨-, rfl⟩ | ⟨-, q, -, rfl⟩ := handleEvent_next hx
  · simp [endSingle_noteEos_eq]
  · simp [endSingle_noteEos_eq, takeData_eq]

/-- An event that ends the session finds it in Single mode (R153). -/
theorem handleEvent_budget_of_ends {e : EventWord} (hx : handleEvent e s = .next t) (ha : s.h.active = true)
    (hend : t.h.active = false) : t.budget = s.budget.spend.cap s.params.envLateMax := by
  rw [handleEvent_active hx, ha] at hend
  rw [handleEvent_budget hx, if_pos ⟨ha, by simpa using hend⟩]

/-- An event that leaves `active` as it was only spends one. -/
theorem handleEvent_budget_of_active_eq {e : EventWord} (hx : handleEvent e s = .next t)
    (hkeep : t.h.active = s.h.active) : t.budget = s.budget.spend := by
  rw [handleEvent_active hx] at hkeep
  rw [handleEvent_budget hx, if_neg]
  rintro ⟨ha, hm⟩
  simp [ha, hm] at hkeep

end

/-- Settles O53: the arithmetic of the budget, then each kind of step by its own rule. -/
theorem budgetFollowsTheSession : Obligations.BudgetFollowsTheSession := by
  unfold Obligations.BudgetFollowsTheSession
  refine ⟨Budget.cap_num, Budget.cap_unbounded, Budget.spend_num, Budget.spend_unbounded, fun s t =>
    ⟨fun m r hx hrsp hwrites => ?start, fun i hx hi => ?stops, fun e hx ha hend => ?ends, fun e hx hkeep => ?keeps,
      fun i hx hi h => ?other⟩⟩
  case start => exact execStart_budget_of_writes hx hrsp hwrites
  case stops => exact Budget.forall_kinds (f := (·.cap s.params.envLateMax)) (exec_budget_of_stops hx hi)
  case ends =>
    exact Budget.forall_kinds (f := (·.spend.cap s.params.envLateMax)) (handleEvent_budget_of_ends hx ha hend)
  case keeps => exact Budget.forall_kinds (f := Budget.spend) (handleEvent_budget_of_active_eq hx hkeep)
  case other => exact exec_budget_of_noSession hx hi h

end Sys2Proof.Machine
end

section
/-! The step of the reset input (spec/70_reset_and_hazards.md R170). -/

namespace Sys2Proof.Machine

theorem step_of_rst {s : State} {rest : List Input} (h : s.inputs = .rst :: rest) :
    step s = .next (openStep s rest).assertReset := by
  rw [step, serveNext, h]
  rfl

/-- Settles O9: the step opens the ports, which keeps the trace, and then asserts the reset, which writes every other field
asked for. -/
theorem resetInputZeroesTheInstance : Obligations.ResetInputZeroesTheInstance := by
  unfold Obligations.ResetInputZeroesTheInstance
  intro s rest hin
  refine ⟨_, step_of_rst hin, ?handle, ?lifecycle, ?budget, ?pending, ?trace⟩
  case handle => exact State.assertReset_h _
  case lifecycle => rw [State.assertReset_h, lifecycle_zero]
  case budget => exact State.assertReset_budget _
  case pending => exact State.assertReset_pending _
  case trace => rw [State.assertReset_trace, openStep_trace]

end Sys2Proof.Machine
end

section
/-! Decoding and encoding are inverse (spec/30_encoding.md R61 to R64), and the sample words of R73. -/

namespace Sys2Proof.Machine

/-- The wires carry the encoding of a well-formed instruction unchanged (R60). -/
theorem sampleCommand_encode {p : Params} {i : Instr} (hwf : i.wf p = true) : sampleCommand p (encode i) = encode i := by
  cases i with
  | setbuf base total block =>
    obtain ⟨⟨hbase, htotal⟩, hblock⟩ : (base < 2 ^ p.addrW ∧ total < 2 ^ p.sizeW) ∧ block < 2 ^ p.sizeW := by
      simpa [Instr.wf] using hwf
    simp [sampleCommand, encode, Nat.mod_eq_of_lt, hbase, htotal, hblock]
  | init | uninit | start | stop | getblock | release | getstatus => simp [sampleCommand, encode]

theorem decode_encode (i : Instr) : decode (encode i) = .ok i := by
  cases i with
  | init m | start m => cases m <;> rfl
  | setbuf => rw [decode, encode_cmd, Instr.modifier, Instr.op]; rfl
  | uninit | stop | getblock | release | getstatus => rfl

/-- A word that decodes to SETBUF takes the three operands as they stand on the operand signals (R62). -/
theorem operands_of_decode_setbuf {c : CommandPort} {base total block : Nat}
    (h : decode c = .ok (.setbuf base total block)) :
    c.argBase = base ∧ c.argTotal = total ∧ c.argBlock = block := by
  have hcmd : cmdWord false 2 = c.cmd := encode_cmd_of_decode_ok h
  have hdecode : decode c = .ok (.setbuf c.argBase c.argTotal c.argBlock) := by
    rw [decode, ← hcmd]
    rfl
  simpa using hdecode.symm.trans h

theorem encode_of_decode_setbuf {c : CommandPort} {base total block : Nat}
    (h : decode c = .ok (.setbuf base total block)) : encode (.setbuf base total block) = c := by
  have hcmd := encode_cmd_of_decode_ok h
  obtain ⟨rfl, rfl, rfl⟩ := operands_of_decode_setbuf h
  calc encode (.setbuf c.argBase c.argTotal c.argBlock)
      = ⟨(encode (.setbuf c.argBase c.argTotal c.argBlock)).cmd, c.argBase, c.argTotal, c.argBlock⟩ := rfl
    _ = c := by rw [hcmd]

/-- What a sampled port value decodes to is well-formed. -/
theorem wf_of_decode_sampleCommand {p : Params} {c : CommandPort} {i : Instr}
    (h : decode (sampleCommand p c) = .ok i) : i.wf p = true := by
  cases i with
  | setbuf base total block =>
    obtain ⟨rfl, rfl, rfl⟩ := operands_of_decode_setbuf h
    simp [Instr.wf, sampleCommand, Nat.mod_lt]
  | init | uninit | start | stop | getblock | release | getstatus => rfl

/-- Settles O4: the wires keep the encoding and the decoder undoes it; the converse is that of the command word and, for SETBUF,
of its operands. -/
theorem decodeAndEncodeAgree : Obligations.DecodeAndEncodeAgree := by
  unfold Obligations.DecodeAndEncodeAgree
  refine ⟨fun p i hwf => ?_, fun c i h => ⟨encode_cmd_of_decode_ok h, ?_⟩⟩
  · rw [sampleCommand_encode hwf, decode_encode]
  · rintro ⟨base, total, block, rfl⟩
    exact encode_of_decode_setbuf h

/-- Settles O5: each word is the encoding of its instruction. -/
theorem wordsOfTheTextSyntax : Obligations.WordsOfTheTextSyntax := by
  unfold Obligations.WordsOfTheTextSyntax
  exact ⟨decode_encode (.init true), decode_encode (.setbuf 0x20000000 4096 1024), decode_encode (.start true),
    decode_encode .getblock, decode_encode .getstatus⟩

end Sys2Proof.Machine
end

section
/-! What a command, an event and a step can do, said once: the frame of each, and where the handle goes. -/

namespace Sys2Proof.Machine

/-! ### A command -/

/-- Where a command can take the handle: nowhere (it fails, is refused or is a no-op), or by the one update of its rule, behind
the checks of that rule (spec/41_lifecycle_commands.md, spec/42_block_commands.md). -/
inductive CommandMove (s : State) : Instr → Handle → Prop
  | keep (i : Instr) : CommandMove s i s.h
  | init (m : Bool) : CommandMove s (.init m) { Handle.zero with initialized := true, cbEn := m }
  | uninit : CommandMove s .uninit Handle.zero
  | attach {base total block : Nat} (hgood : badBuffer base total block = false) (hi : s.h.initialized = true)
      (ha : s.h.active = false) : CommandMove s (.setbuf base total block) (attachBuffer base total block s.h)
  | session (m : Bool) (hr : startRefused s.params.dir s.h = false) (ha : s.h.active = false) :
      CommandMove s (.start m) { s.h with active := s.periphActive, singleMode := m }
  | stop : CommandMove s .stop { s.h with active := false }
  | acquire (hr : getRefused s.params.dir s.h = false) : CommandMove s .getblock (acquireBlock s.params.dir s.h)
  | giveBack (hr : releaseRefused s.h = false) : CommandMove s .release (giveBack s.params.dir s.h)
  | clear : CommandMove s .getstatus { s.h with ovfUdf := false, eos := false }

/-- The frame of a command: it appends to the trace, may set the budget, and answers; besides these and the handle it writes
nothing. -/
def CommandFrame (s t : State) : Prop :=
  ∃ ms b r, t = { s with h := t.h, trace := s.trace ++ ms, budget := b, rsp := some r }

theorem commandFrame_finish (s : State) (v : Result) : CommandFrame s (s.finish v) :=
  ⟨[], s.budget, _, by rw [List.append_nil]; rfl⟩

theorem commandFrame_setHandle_answer (s : State) (h : Handle) (r : Response) :
    CommandFrame s ((s.setHandle h).answer r) :=
  ⟨[], s.budget, r, by rw [List.append_nil]; rfl⟩

section

variable {s t : State}

theorem execSetbuf_move {base total block : Nat} (hx : execSetbuf base total block s = .next t) :
    CommandFrame s t ∧ CommandMove s (.setbuf base total block) t.h := by
  obtain ⟨-, hx'⟩ | ⟨-, -, hx'⟩ | ⟨hgood, hi, ha, hx'⟩ := execSetbuf_cases base total block s <;>
    cases hx.symm.trans hx'
  · exact ⟨commandFrame_finish s _, .keep _⟩
  · exact ⟨commandFrame_finish s _, .keep _⟩
  · exact ⟨⟨_, _, _, rfl⟩, .attach hgood hi ha⟩

theorem execStart_move {m : Bool} (hx : execStart m s = .next t) :
    CommandFrame s t ∧ CommandMove s (.start m) t.h := by
  obtain ⟨-, hx'⟩ | ⟨-, -, hx'⟩ | ⟨hr, ha, hx'⟩ := execStart_cases m s <;> cases hx.symm.trans hx'
  · exact ⟨commandFrame_finish s _, .keep _⟩
  · exact ⟨commandFrame_finish s _, .keep _⟩
  · rw [startSession_eq]
    exact ⟨⟨_, _, _, rfl⟩, .session m hr ha⟩

theorem execStop_move (hx : execStop s = .next t) : CommandFrame s t ∧ CommandMove s .stop t.h := by
  obtain ⟨-, hx'⟩ | ⟨-, hx'⟩ := execStop_cases s <;> cases hx.symm.trans hx'
  · exact ⟨commandFrame_finish s _, .keep _⟩
  · exact ⟨⟨_, _, _, rfl⟩, .stop⟩

theorem execGetblock_move (hx : execGetblock s = .next t) : CommandFrame s t ∧ CommandMove s .getblock t.h := by
  obtain ⟨-, hx'⟩ | ⟨hr, hx'⟩ := execGetblock_cases s <;> cases hx.symm.trans hx'
  · exact ⟨commandFrame_setHandle_answer s s.h _, .keep _⟩
  · exact ⟨commandFrame_setHandle_answer s _ _, .acquire hr⟩

theorem execRelease_move (hx : execRelease s = .next t) : CommandFrame s t ∧ CommandMove s .release t.h := by
  obtain ⟨-, hx'⟩ | ⟨hr, hx'⟩ := execRelease_cases s <;> cases hx.symm.trans hx'
  · exact ⟨commandFrame_finish s _, .keep _⟩
  · exact ⟨commandFrame_setHandle_answer s _ _, .giveBack hr⟩

theorem exec_move {i : Instr} (hx : exec i s = .next t) : CommandFrame s t ∧ CommandMove s i t.h := by
  cases i with
  | init m => cases hx; exact ⟨⟨_, _, _, rfl⟩, .init m⟩
  | uninit => cases hx; exact ⟨⟨_, _, _, rfl⟩, .uninit⟩
  | setbuf base total block => exact execSetbuf_move hx
  | start m => exact execStart_move hx
  | stop => exact execStop_move hx
  | getblock => exact execGetblock_move hx
  | release => exact execRelease_move hx
  | getstatus => cases hx; exact ⟨commandFrame_setHandle_answer s _ _, .clear⟩

theorem exec_params {i : Instr} (hx : exec i s = .next t) : t.params = s.params := by
  obtain ⟨⟨ms, b, r, ht⟩, -⟩ := exec_move hx
  rw [ht]

theorem exec_pending {i : Instr} (hx : exec i s = .next t) : t.pending = s.pending := by
  obtain ⟨⟨ms, b, r, ht⟩, -⟩ := exec_move hx
  rw [ht]

theorem exec_trace {i : Instr} (hx : exec i s = .next t) : ∃ ms, t.trace = s.trace ++ ms := by
  obtain ⟨⟨ms, b, r, ht⟩, -⟩ := exec_move hx
  exact ⟨ms, by rw [ht]⟩

end

/-- Every command answers a next state (R100). -/
theorem exec_next (i : Instr) (s : State) : ∃ t, exec i s = .next t := by
  obtain ⟨t, -, hx, -⟩ := failingCommandsChangeNothing i s
  exact ⟨t, hx⟩

/-! ### An event -/

/-- Where an event can take the handle: steps 3 and 4 run on the handle as it was, or on that of the data steps with the advanced
producer cursor `q` (spec/60_exceptions.md R149 to R153). -/
inductive EventMove (e : EventWord) (s : State) : Handle → Prop
  | noData (hd : dataReady e = false) : EventMove e s (endSingle (noteEos e s.h))
  | data {q : Nat} (hd : dataReady e = true) (hq : producerAdvance s.params e s.h = .ok q) :
      EventMove e s (endSingle (noteEos e (takeData s.params.dir q s.h)))

section

variable {e : EventWord} {s t : State} (hx : handleEvent e s = .next t)

include hx

theorem handleEvent_move : EventMove e s t.h := by
  obtain ⟨hd, rfl⟩ | ⟨hd, q, hq, rfl⟩ := handleEvent_next hx
  · simpa using EventMove.noData (s := s) hd
  · simpa using EventMove.data hd hq

theorem handleEvent_params : t.params = s.params := by
  obtain ⟨-, rfl⟩ | ⟨-, q, -, rfl⟩ := handleEvent_next hx <;> simp

theorem handleEvent_pending : t.pending = s.pending := by
  obtain ⟨-, rfl⟩ | ⟨-, q, -, rfl⟩ := handleEvent_next hx <;> simp

theorem handleEvent_trace : t.trace = s.trace ++ [.write .irqClear (.sym .ack)] := by
  obtain ⟨-, rfl⟩ | ⟨-, q, -, rfl⟩ := handleEvent_next hx <;> simp

end

/-- The two ways the cursor advance fails, and so the two faults of the handler (R149, R157). -/
theorem producerAdvance_eq_error_iff {p : Params} {e : EventWord} {h : Handle} {f : Fault} :
    producerAdvance p e h = .error f ↔
      f = .evtNoBuffer ∧ h.bufSet = false ∨
      f = .evtBadIndex ∧ h.bufSet = true ∧ p.prodAdvance = .adoptIndex ∧ h.blockCount ≤ e.blkIndex := by
  cases hb : h.bufSet with
  | false => simp [producerAdvance_of_noBuffer hb, eq_comm]
  | true =>
    cases hp : p.prodAdvance with
    | selfIncrement => simp [producerAdvance, hb, hp]
    | adoptIndex =>
      by_cases hlt : e.blkIndex < h.blockCount
      · simp [producerAdvance, hb, hp, hlt]
      · simp [producerAdvance, hb, hp, hlt, not_lt.mp hlt, eq_comm]

theorem handleEvent_eq_fault_iff {e : EventWord} {s : State} {f : Fault} :
    handleEvent e s = .fault f ↔ dataReady e = true ∧ producerAdvance s.params e s.h = .error f := by
  cases hd : dataReady e with
  | false => simp [handleEvent_of_noData hd]
  | true =>
    cases hq : producerAdvance s.params e s.h with
    | ok q => simp [handleEvent_of_advance hd hq]
    | error f' => simp [handleEvent_of_fault hd hq]

/-! ### A step, by its input -/

/-- The state in which the command of a step runs: the ports opened, with the peripheral's answer on the register port. -/
def openCommand (s : State) (rest : List Input) (answer : Bool) : State :=
  { openStep s rest with periphActive := answer }

/-- The state in which the handler of a step runs: the ports opened, with the event that it takes off the pending ones. -/
def openEvent (s : State) (rest : List Input) (more : List EventWord) : State :=
  { openStep s rest with pending := more }

section

variable (s : State) (rest : List Input) (answer : Bool) (more : List EventWord)

@[simp] theorem openCommand_params : (openCommand s rest answer).params = s.params := rfl
@[simp] theorem openCommand_h : (openCommand s rest answer).h = s.h := rfl
@[simp] theorem openCommand_pending : (openCommand s rest answer).pending = s.pending := rfl
@[simp] theorem openCommand_budget : (openCommand s rest answer).budget = s.budget := rfl
@[simp] theorem openCommand_trace : (openCommand s rest answer).trace = s.trace := rfl
@[simp] theorem openEvent_params : (openEvent s rest more).params = s.params := rfl
@[simp] theorem openEvent_h : (openEvent s rest more).h = s.h := rfl
@[simp] theorem openEvent_pending : (openEvent s rest more).pending = more := rfl
@[simp] theorem openEvent_budget : (openEvent s rest more).budget = s.budget := rfl
@[simp] theorem openEvent_trace : (openEvent s rest more).trace = s.trace := rfl

end

section

variable {s : State} {rest : List Input}

theorem step_of_noInput (h : s.inputs = []) : step s = .next (openStep s []) := by
  rw [step, serveNext, h]

theorem step_of_decoded {c : CommandPort} {answer : Bool} {i : Instr} (h : s.inputs = .command c answer :: rest)
    (hc : decode (sampleCommand s.params c) = .ok i) :
    step s = exec i (openCommand s rest answer) := by
  rw [step_of_command h, serveCommand, openStep_params, hc]
  rfl

theorem step_of_undecoded {c : CommandPort} {answer : Bool} {why : IllegalWord}
    (h : s.inputs = .command c answer :: rest) (hc : decode (sampleCommand s.params c) = .error why) :
    step s = .next ((openStep s rest).answer illegalResponse) := by
  rw [step_of_command h, serveCommand, openStep_params, hc]

theorem step_of_completion {e : EventWord} (h : s.inputs = .completion e :: rest) :
    step s = .next (raiseCompletion e (openStep s rest)) := by
  rw [step, serveNext, h]
  rfl

theorem step_of_deliver (h : s.inputs = .deliver :: rest) : step s = deliverInterrupt (openStep s rest) := by
  rw [step, serveNext, h]
  rfl

/-- No step `EVT` is due: nothing is pending, or the interrupt is disabled (R147). -/
theorem step_of_deliver_idle (h : s.inputs = .deliver :: rest) (hidle : s.pending = [] ∨ s.h.initialized = false) :
    step s = .next (openStep s rest) := by
  rw [step_of_deliver h, deliverInterrupt, openStep_pending]
  cases hp : s.pending with
  | nil => rfl
  | cons e more =>
    have hi : s.h.initialized = false := by simpa [hp] using hidle
    exact if_neg (Bool.eq_false_iff.mp hi)

theorem step_of_deliver_due {e : EventWord} {more : List EventWord} (h : s.inputs = .deliver :: rest)
    (hp : s.pending = e :: more) (hi : s.h.initialized = true) :
    step s = handleEvent e (openEvent s rest more) := by
  rw [step_of_deliver h, deliverInterrupt, openStep_pending, hp]
  exact if_pos hi

end

/-- The inputs that a step can meet, each with the answer it gives. -/
inductive Serves (s : State) : Answer → Prop
  | noInput (h : s.inputs = []) : Serves s (.next (openStep s []))
  | rst {rest : List Input} (h : s.inputs = .rst :: rest) : Serves s (.next (openStep s rest).assertReset)
  | decoded {rest : List Input} {c : CommandPort} {answer : Bool} {i : Instr} {y : Answer}
      (h : s.inputs = .command c answer :: rest) (hc : decode (sampleCommand s.params c) = .ok i)
      (hx : exec i (openCommand s rest answer) = y) : Serves s y
  | undecoded {rest : List Input} {c : CommandPort} {answer : Bool} {why : IllegalWord}
      (h : s.inputs = .command c answer :: rest) (hc : decode (sampleCommand s.params c) = .error why) :
      Serves s (.next ((openStep s rest).answer illegalResponse))
  | completion {rest : List Input} {e : EventWord} (h : s.inputs = .completion e :: rest) :
      Serves s (.next (raiseCompletion e (openStep s rest)))
  | idle {rest : List Input} (h : s.inputs = .deliver :: rest) (hidle : s.pending = [] ∨ s.h.initialized = false) :
      Serves s (.next (openStep s rest))
  | due {rest : List Input} {e : EventWord} {more : List EventWord} {y : Answer} (h : s.inputs = .deliver :: rest)
      (hp : s.pending = e :: more) (hi : s.h.initialized = true)
      (hx : handleEvent e (openEvent s rest more) = y) : Serves s y

theorem step_serves (s : State) : Serves s (step s) := by
  cases h : s.inputs with
  | nil => exact step_of_noInput h ▸ .noInput h
  | cons x rest =>
    cases x with
    | rst => exact step_of_rst h ▸ .rst h
    | command c answer =>
      cases hc : decode (sampleCommand s.params c) with
      | ok i => exact .decoded h hc (step_of_decoded h hc).symm
      | error why => exact step_of_undecoded h hc ▸ .undecoded h hc
    | completion e => exact step_of_completion h ▸ .completion h
    | deliver =>
      cases hp : s.pending with
      | nil => exact step_of_deliver_idle h (.inl hp) ▸ .idle h (.inl hp)
      | cons e more =>
        cases hi : s.h.initialized with
        | false => exact step_of_deliver_idle h (.inr hi) ▸ .idle h (.inr hi)
        | true => exact .due h hp hi (step_of_deliver_due h hp hi).symm

theorem step_serves_next {s t : State} (hx : step s = .next t) : Serves s (.next t) :=
  hx ▸ step_serves s

theorem step_serves_fault {s : State} {f : Fault} (hx : step s = .fault f) : Serves s (.fault f) :=
  hx ▸ step_serves s

theorem eventDue_iff {s : State} : eventDue s = true ↔
    ∃ rest e more, s.inputs = .deliver :: rest ∧ s.pending = e :: more ∧ s.h.initialized = true := by
  unfold eventDue
  split
  case h_1 rest e more hin hp => simp [hin, hp, State.irqEnabled]
  case h_2 hnot =>
    refine iff_of_false Bool.false_ne_true ?_
    rintro ⟨rest, e, more, hin, hp, -⟩
    exact hnot rest e more hin hp

/-- Settles O6: the step opens the ports and runs what the word decodes to. -/
theorem stepRunsTheDecodedCommand : Obligations.StepRunsTheDecodedCommand := by
  unfold Obligations.StepRunsTheDecodedCommand
  exact fun _ _ _ _ _ hin hc => step_of_decoded hin hc

/-- A table word decodes with every operand signal 0, which the wires carry unchanged. -/
theorem decode_of_decodeTableWord {nbits w : Nat} {i : Instr} (h : decodeTableWord nbits w = some i) (p : Params) :
    decode (sampleCommand p ⟨BitVec.ofNat 8 w, 0, 0, 0⟩) = .ok i := by
  have hsample : sampleCommand p ⟨BitVec.ofNat 8 w, 0, 0, 0⟩ = ⟨BitVec.ofNat 8 w, 0, 0, 0⟩ := by simp [sampleCommand]
  rw [hsample]
  unfold decodeTableWord at h
  split at h
  case isTrue =>
    split at h
    case h_1 j hj =>
      cases h
      exact hj
    case h_2 => cases h
  case isFalse => cases h

/-- Settles O7: the placed word is the next input, and it decodes as the table says. -/
theorem placedWordIsTheNextCommand : Obligations.PlacedWordIsTheNextCommand := by
  unfold Obligations.PlacedWordIsTheNextCommand
  exact fun s _ _ _ hw => step_of_decoded rfl (decode_of_decodeTableWord hw s.params)

theorem sampleEvent_of_wf {p : Params} {e : EventWord} (hwf : e.wf p = true) : sampleEvent p e = e := by
  have hlt : e.blkIndex < 2 ^ p.sizeW := by simpa [EventWord.wf] using hwf
  rw [sampleEvent, Nat.mod_eq_of_lt hlt]

/-- Settles O8: a completion is stored as the wires carry it, and a delivery is the handler's step exactly when it is due. -/
theorem eventsAreDeliveredWhileInitialized : Obligations.EventsAreDeliveredWhileInitialized := by
  unfold Obligations.EventsAreDeliveredWhileInitialized
  intro s rest
  refine ⟨fun e hin => step_of_completion hin, fun e hin hwf => ?_, step_of_deliver_idle,
    fun e more hin hp hi => step_of_deliver_due hin hp hi⟩
  rw [step_of_completion hin, raiseCompletion, openStep_params, sampleEvent_of_wf hwf]
  rfl

/-- Settles O40: a command and the handler keep the parameters, and no other input touches them. -/
theorem stepKeepsTheParameters : Obligations.StepKeepsTheParameters := by
  unfold Obligations.StepKeepsTheParameters
  intro s t hx
  cases step_serves_next hx with
  | decoded h hc hx => simpa using exec_params hx
  | due h hp hi hx => simpa using handleEvent_params hx
  | noInput | rst | undecoded | completion | idle => rfl

/-- Settles O41: a command and the handler append, and no other input touches the trace; the block commands have no write in
any of their branches. -/
theorem traceOnlyGrows : Obligations.TraceOnlyGrows := by
  unfold Obligations.TraceOnlyGrows
  refine ⟨fun s t hx => ?step, fun i s t hi hx => ?block⟩
  case step =>
    cases step_serves_next hx with
    | decoded h hc hx => simpa using exec_trace hx
    | due h hp hi hx => exact ⟨_, by simpa using handleEvent_trace hx⟩
    | noInput | rst | undecoded | completion | idle => exact ⟨[], (List.append_nil _).symm⟩
  case block =>
    obtain rfl | rfl | rfl := hi
    · obtain ⟨-, hx'⟩ | ⟨-, hx'⟩ := execGetblock_cases s <;> cases hx.symm.trans hx' <;> rfl
    · obtain ⟨-, hx'⟩ | ⟨-, hx'⟩ := execRelease_cases s <;> cases hx.symm.trans hx' <;> rfl
    · cases hx; rfl

/-! ### When a step stops (R149, R157) -/

theorem exec_ne_fault (i : Instr) (s : State) (f : Fault) : exec i s ≠ .fault f := by
  obtain ⟨t, hx⟩ := exec_next i s
  simp [hx]

theorem exec_ne_refused (i : Instr) (s : State) (r : Refusal) : exec i s ≠ .refused r := by
  obtain ⟨t, hx⟩ := exec_next i s
  simp [hx]

theorem step_ne_refused (s : State) (r : Refusal) : step s ≠ .refused r := by
  intro hx
  have hserves : Serves s (.refused r) := hx ▸ step_serves s
  cases hserves with
  | decoded h hc hx => exact exec_ne_refused _ _ _ hx
  | due h hp hi hx => exact handleEvent_not_refused _ _ _ hx

/-- A step stops in the handler only. -/
theorem step_eq_fault_iff {s : State} {f : Fault} : step s = .fault f ↔
    ∃ rest e more, s.inputs = .deliver :: rest ∧ s.pending = e :: more ∧ s.h.initialized = true ∧
      dataReady e = true ∧ producerAdvance s.params e s.h = .error f := by
  constructor
  · intro hx
    cases step_serves_fault hx with
    | decoded h hc hx => exact absurd hx (exec_ne_fault _ _ _)
    | due h hp hi hx => exact ⟨_, _, _, h, hp, hi, by simpa using handleEvent_eq_fault_iff.mp hx⟩
  · rintro ⟨rest, e, more, h, hp, hi, hfault⟩
    rw [step_of_deliver_due h hp hi]
    exact handleEvent_eq_fault_iff.mpr (by simpa using hfault)

/-- Settles O42: the faults of a step are those of the cursor advance in a due event. -/
theorem stepStopsOnlyOnTheTwoFaults : Obligations.StepStopsOnlyOnTheTwoFaults := by
  unfold Obligations.StepStopsOnlyOnTheTwoFaults
  intro s
  refine ⟨step_ne_refused s, ?noBuffer, ?badIndex⟩
  all_goals simp [step_eq_fault_iff, producerAdvance_eq_error_iff, dataReady]

/-! ### Who writes which field (R162, R184) -/

section

variable {s t : State}

/-- Commands only clear the sticky flags (R23, R24). -/
theorem CommandMove.sticky {i : Instr} {h : Handle} (hm : CommandMove s i h) :
    (h.ovfUdf = true → s.h.ovfUdf = true) ∧ (h.eos = true → s.h.eos = true) := by
  cases hm with
  | giveBack => simp [giveBack_eq]
  | keep | init | uninit | attach | session | stop | acquire | clear =>
    simp [Handle.zero, attachBuffer, acquireBlock]

/-- Only GETSTATUS, INIT and UNINIT clear a sticky flag. -/
theorem CommandMove.sticky_kept {i : Instr} {h : Handle} (hm : CommandMove s i h) :
    (i = .getstatus ∨ i = .uninit ∨ ∃ m, i = .init m) ∨ (h.ovfUdf = s.h.ovfUdf ∧ h.eos = s.h.eos) := by
  cases hm with
  | giveBack => simp [giveBack_eq]
  | keep | init | uninit | attach | session | stop | acquire | clear => simp [attachBuffer, acquireBlock]

theorem CommandMove.idxProd {i : Instr} {h : Handle} (hm : CommandMove s i h) :
    h.idxProd = s.h.idxProd ∨
      (h.idxProd = 0 ∧ ((∃ m, i = .init m) ∨ i = .uninit ∨ ∃ b n k, i = .setbuf b n k)) := by
  cases hm with
  | giveBack => simp [giveBack_eq]
  | keep | init | uninit | attach | session | stop | acquire | clear =>
    simp [Handle.zero, attachBuffer, acquireBlock]

end

/-- The fields that an event leaves as they are, whether it carries data or not (R162). -/
theorem EventMove.frame {e : EventWord} {s : State} {h : Handle} (hm : EventMove e s h) :
    ∃ prod empty full ovf, h = { s.h with
      idxProd := prod, bufferEmpty := empty, bufferFull := full, ovfUdf := s.h.ovfUdf || ovf
      eos := s.h.eos || endOfStream e, active := s.h.active && !s.h.singleMode } := by
  cases hm with
  | noData hd => exact ⟨s.h.idxProd, s.h.bufferEmpty, s.h.bufferFull, false, by rw [endSingle_noteEos_eq, Bool.or_false]⟩
  | data hd hq => exact ⟨_, _, _, _, by rw [endSingle_noteEos_eq, takeData_eq]⟩

/-- An event clears no sticky flag (R23, R24). -/
theorem EventMove.sticky {e : EventWord} {s : State} {h : Handle} (hm : EventMove e s h) :
    (s.h.ovfUdf = true → h.ovfUdf = true) ∧ (s.h.eos = true → h.eos = true) := by
  obtain ⟨prod, empty, full, ovf, rfl⟩ := hm.frame
  simp +contextual

/-- Settles O43: the commands by their moves, and the handler by its frame. -/
theorem contextsWriteOnlyTheirOwnFields : Obligations.ContextsWriteOnlyTheirOwnFields := by
  unfold Obligations.ContextsWriteOnlyTheirOwnFields
  refine ⟨fun i s t hx => ?command, fun e s t hx => ?event⟩
  case command =>
    obtain ⟨-, hm⟩ := exec_move hx
    exact ⟨hm.idxProd, hm.sticky⟩
  case event =>
    have hm := handleEvent_move hx
    have hsticky := hm.sticky
    obtain ⟨prod, empty, full, ovf, hh⟩ := hm.frame
    rw [hh] at hsticky ⊢
    exact ⟨rfl, rfl, rfl, rfl, rfl, rfl, rfl, rfl, rfl, rfl, hsticky.1, hsticky.2, fun ha => (Bool.and_eq_true_iff.mp ha).1⟩

/-- Settles O44: the step's input decides: reset and a command may clear, and an event may set. -/
theorem stickyFlagsLastUntilRead : Obligations.StickyFlagsLastUntilRead := by
  unfold Obligations.StickyFlagsLastUntilRead
  intro s t hx
  cases step_serves_next hx with
  | rst h => exact ⟨fun _ => ⟨_, .inl h⟩, by simp [Handle.zero]⟩
  | @decoded rest c answer i _ h hc hx =>
    obtain ⟨-, hm⟩ := exec_move hx
    obtain ⟨hovf, heos⟩ := hm.sticky
    refine ⟨fun hcleared => ⟨rest, .inr ⟨c, answer, i, h, hc, hm.sticky_kept.resolve_right ?_⟩⟩, ?_⟩
    · rintro ⟨hovf_kept, heos_kept⟩
      simp [hovf_kept, heos_kept] at hcleared
    · rintro (⟨hclear, hset⟩ | ⟨hclear, hset⟩)
      · exact absurd (hovf hset) (Bool.eq_false_iff.mp hclear)
      · exact absurd (heos hset) (Bool.eq_false_iff.mp hclear)
  | due h hp hi hx =>
    obtain ⟨hovf, heos⟩ := (handleEvent_move hx).sticky
    refine ⟨?_, fun _ => eventDue_iff.mpr ⟨_, _, _, h, hp, hi⟩⟩
    rintro (⟨hset, hclear⟩ | ⟨hset, hclear⟩)
    · exact absurd (hovf hset) (Bool.eq_false_iff.mp hclear)
    · exact absurd (heos hset) (Bool.eq_false_iff.mp hclear)
  | noInput | undecoded | completion | idle => simp +contextual

end Sys2Proof.Machine
end

section
/-! The count of held blocks (spec/10_state.md R30 item 9) and the invariants of the handle (R26, R30). -/

namespace Sys2Proof.Machine

/-! ### Distances round the ring of blocks -/

/-- How many places block `k` lies behind block `r`, going up modulo `n`. -/
def ringDistance (n r k : Nat) : Nat := (k + n - r) % n

theorem ringDistance_lt {n : Nat} (hn : 0 < n) (r k : Nat) : ringDistance n r k < n := Nat.mod_lt _ hn

section

variable {n r k : Nat} (hr : r < n) (hk : k < n)

include hr hk

theorem ringDistance_eq_ite : ringDistance n r k = if r ≤ k then k - r else k + n - r := by
  unfold ringDistance
  split
  case isTrue hle =>
    rw [show k + n - r = k - r + n by omega, Nat.add_mod_right, Nat.mod_eq_of_lt (by omega)]
  case isFalse hlt => exact Nat.mod_eq_of_lt (by omega)

theorem ringDistance_incMod_right :
    ringDistance n r k + 1 = if incMod k n = r then n else ringDistance n r (incMod k n) := by
  rw [ringDistance_eq_ite hr hk, ringDistance_eq_ite hr (incMod_lt hk)]
  unfold incMod
  split_ifs <;> omega

theorem ringDistance_incMod_left :
    ringDistance n (incMod r n) k = if k = r then n - 1 else ringDistance n r k - 1 := by
  rw [ringDistance_eq_ite hr hk, ringDistance_eq_ite (incMod_lt hr) hk]
  unfold incMod
  split_ifs <;> omega

theorem ringDistance_eq_zero_iff : ringDistance n r k = 0 ↔ k = r := by
  rw [ringDistance_eq_ite hr hk]
  split_ifs <;> omega

end

theorem ringDistance_right_inj {n r k j : Nat} (hr : r < n) (hk : k < n) (hj : j < n) :
    ringDistance n r k = ringDistance n r j ↔ k = j := by
  rw [ringDistance_eq_ite hr hk, ringDistance_eq_ite hr hj]
  split_ifs <;> omega

/-! ### The held blocks -/

section

variable {h : Handle}

theorem held_of_noBuffer (hb : h.bufSet = false) : held h = 0 := by
  simp [held, hb]

theorem held_of_limitOwned (hb : h.bufSet = true) (hl : h.limitOwned = true) : held h = h.blockCount := by
  simp [held, hb, hl]

theorem held_of_not_limitOwned (hb : h.bufSet = true) (hl : h.limitOwned = false) :
    held h = ringDistance h.blockCount h.idxRel h.idxGet := by
  simp [held, hb, hl, ringDistance]

/-- The bound of R30 item 9 and the exact form of the limit flag need only that the limit flag stands with a buffer, and that a
buffer has a block. -/
theorem held_le_and_limit_iff (hn : h.bufSet = true → 0 < h.blockCount) (hl : h.limitOwned = true → h.bufSet = true) :
    held h ≤ h.blockCount ∧ (h.limitOwned = true ↔ h.bufSet = true ∧ held h = h.blockCount) := by
  cases hb : h.bufSet with
  | false =>
    have hl' : h.limitOwned = false := Bool.eq_false_iff.mpr fun hlimit => by simp [hl hlimit] at hb
    simp [held_of_noBuffer hb, hl']
  | true =>
    cases hlimit : h.limitOwned with
    | true => simp [held_of_limitOwned hb hlimit]
    | false =>
      have hlt : held h < h.blockCount := by
        rw [held_of_not_limitOwned hb hlimit]
        exact ringDistance_lt (hn hb) _ _
      simp [hlt.le, hlt.ne]

end

/-! ### What the invariants give -/

section

variable {p : Params} {h : Handle} (hinv : HandleInv p h)

include hinv

theorem HandleInv.initialized_of_bufSet (hb : h.bufSet = true) : h.initialized = true := by
  by_contra hi
  rw [hinv.zero_outside (by simpa using hi)] at hb
  cases hb

/-- A buffer has a block. -/
theorem HandleInv.blockCount_pos (hb : h.bufSet = true) : 0 < h.blockCount := (hinv.ranges hb).2.1

theorem HandleInv.cursors_lt (hb : h.bufSet = true) :
    h.idxGet < h.blockCount ∧ h.idxRel < h.blockCount ∧ h.idxProd < h.blockCount := (hinv.ranges hb).2.2

theorem HandleInv.bufSet_of_limitOwned (hl : h.limitOwned = true) : h.bufSet = true := (hinv.limit_iff.mp hl).1

theorem HandleInv.held_lt (hb : h.bufSet = true) (hl : h.limitOwned = false) : held h < h.blockCount := by
  rw [held_of_not_limitOwned hb hl]
  exact ringDistance_lt (hinv.blockCount_pos hb) _ _

end

/-! ### Each update keeps the invariants -/

theorem HandleInv.zero (p : Params) : HandleInv p Handle.zero := by
  constructor <;> simp [Handle.zero, held]

theorem HandleInv.fresh (p : Params) (m : Bool) :
    HandleInv p { Handle.zero with initialized := true, cbEn := m } := by
  constructor <;> simp [Handle.zero, held]

section

variable {p : Params} {h : Handle} (hinv : HandleInv p h)

include hinv

/-- Attaching a buffer whose operands fit their wires (R104). -/
theorem HandleInv.attachBuffer {base total block : Nat} (hgood : badBuffer base total block = false)
    (hwf : (Instr.setbuf base total block).wf p = true) (hi : h.initialized = true) :
    HandleInv p (attachBuffer base total block h) := by
  obtain ⟨-, -, hblock, hle⟩ := badBuffer_false.mp hgood
  obtain ⟨⟨hbase, htotal⟩, hblock_lt⟩ : (base < 2 ^ p.addrW ∧ total < 2 ^ p.sizeW) ∧ block < 2 ^ p.sizeW := by
    simpa [Instr.wf] using hwf
  have hcount : 0 < total / block := Nat.div_pos hle (by omega)
  obtain ⟨hheld, hlimit⟩ := held_le_and_limit_iff (h := Machine.attachBuffer base total block h) (fun _ => hcount) nofun
  exact { hinv with
    zero_outside := fun hi' => absurd hi (Bool.eq_false_iff.mp hi')
    active_needs := fun _ => ⟨rfl, hi⟩
    ranges := fun _ => ⟨Nat.pos_of_ne_zero hblock, hcount, hcount, hcount, hcount⟩
    limit_parity := nofun
    empty_meets := fun _ _ => rfl
    empty_not_full := fun _ => nofun
    output_not_full := fun _ => rfl
    held_le := hheld
    limit_iff := hlimit
    no_buffer := nofun
    widths := ⟨hbase, hblock_lt, (Nat.div_le_self total block).trans_lt htotal⟩ }

/-- Beginning a session, or failing to (R107, R108). -/
theorem HandleInv.session {a m : Bool} (hi : h.initialized = true) (hb : h.bufSet = true) :
    HandleInv p { h with active := a, singleMode := m } :=
  { hinv with
    zero_outside := fun hi' => absurd hi (Bool.eq_false_iff.mp hi')
    active_needs := fun _ => ⟨hb, hi⟩ }

theorem HandleInv.inactive : HandleInv p { h with active := false } :=
  { hinv with
    zero_outside := fun hi => by rw [hinv.zero_outside hi]; rfl
    active_needs := nofun }

theorem HandleInv.clearSticky : HandleInv p { h with ovfUdf := false, eos := false } :=
  { hinv with zero_outside := fun hi => by rw [hinv.zero_outside hi]; rfl }

theorem HandleInv.acquireBlock (hr : getRefused p.dir h = false) : HandleInv p (acquireBlock p.dir h) := by
  obtain ⟨hb, hempty, hl⟩ := getRefused_eq_false_iff.mp hr
  have hi := hinv.initialized_of_bufSet hb
  obtain ⟨hsize, hcount, hget, hrel, hprod⟩ := hinv.ranges hb
  have hadvance := incMod_lt hget
  rw [acquireBlock_eq _ hl]
  obtain ⟨hheld, hlimit⟩ := held_le_and_limit_iff
    (h := { h with
      idxGet := incMod h.idxGet h.blockCount
      limitOwned := decide (incMod h.idxGet h.blockCount = h.idxRel)
      bufferEmpty := if p.dir = .input ∧ incMod h.idxGet h.blockCount = h.idxProd then true else h.bufferEmpty
      bufferFull := false })
    (fun _ => hcount) (fun _ => hb)
  exact { hinv with
    zero_outside := fun hi' => absurd hi (Bool.eq_false_iff.mp hi')
    ranges := fun _ => ⟨hsize, hcount, hadvance, hrel, hprod⟩
    limit_parity := fun hl' => of_decide_eq_true hl'
    empty_meets := fun hd => by simp [hd, hempty hd]
    empty_not_full := fun _ hboth => Bool.false_ne_true hboth.2
    output_not_full := fun _ => rfl
    held_le := hheld
    limit_iff := hlimit
    no_buffer := fun hb' => absurd hb (Bool.eq_false_iff.mp hb') }

theorem HandleInv.giveBack (hr : releaseRefused h = false) : HandleInv p (giveBack p.dir h) := by
  obtain ⟨hb, -⟩ := releaseRefused_eq_false_iff.mp hr
  have hi := hinv.initialized_of_bufSet hb
  obtain ⟨hsize, hcount, hget, hrel, hprod⟩ := hinv.ranges hb
  rw [giveBack_eq]
  obtain ⟨hheld, hlimit⟩ := held_le_and_limit_iff
    (h := { h with
      idxRel := incMod h.idxRel h.blockCount
      limitOwned := false
      bufferFull := if p.dir = .input then false else h.bufferFull
      bufferEmpty := if p.dir = .output then false else h.bufferEmpty })
    (fun _ => hcount) nofun
  exact { hinv with
    zero_outside := fun hi' => absurd hi (Bool.eq_false_iff.mp hi')
    ranges := fun _ => ⟨hsize, hcount, hget, incMod_lt hrel, hprod⟩
    limit_parity := nofun
    empty_meets := fun hd => by simpa [hd] using hinv.empty_meets hd
    empty_not_full := fun hd => by simp [hd]
    output_not_full := fun hd => by simpa [hd] using hinv.output_not_full hd
    held_le := hheld
    limit_iff := hlimit
    no_buffer := fun hb' => absurd hb (Bool.eq_false_iff.mp hb') }

/-- The data steps of the handler, with a producer cursor in range (R149 to R151). -/
theorem HandleInv.takeData {q : Nat} (hb : h.bufSet = true) (hq : q < h.blockCount) :
    HandleInv p (takeData p.dir q h) := by
  have hi := hinv.initialized_of_bufSet hb
  obtain ⟨hsize, hcount, hget, hrel, hprod⟩ := hinv.ranges hb
  rw [takeData_eq]
  exact { hinv with
    zero_outside := fun hi' => absurd hi (Bool.eq_false_iff.mp hi')
    ranges := fun _ => ⟨hsize, hcount, hget, hrel, hq⟩
    empty_meets := fun hd => by simp [hd]
    empty_not_full := fun hd => by simp [hd]
    output_not_full := fun hd => by simp [hd]
    no_buffer := fun hb' => absurd hb (Bool.eq_false_iff.mp hb') }

/-- Steps 3 and 4 of the handler (R152, R153). -/
theorem HandleInv.endSingle_noteEos (e : EventWord) (hi : h.initialized = true) :
    HandleInv p (endSingle (noteEos e h)) := by
  rw [endSingle_noteEos_eq]
  exact { hinv with
    zero_outside := fun hi' => absurd hi (Bool.eq_false_iff.mp hi')
    active_needs := fun ha => hinv.active_needs (Bool.and_eq_true_iff.mp ha).1 }

end

/-! ### Each step keeps the invariants -/

theorem CommandMove.inv {s : State} {i : Instr} {h : Handle} (hinv : HandleInv s.params s.h)
    (hwf : i.wf s.params = true) (hm : CommandMove s i h) : HandleInv s.params h := by
  cases hm with
  | keep => exact hinv
  | init m => exact .fresh _ m
  | uninit => exact .zero _
  | attach hgood hi _ => exact hinv.attachBuffer hgood hwf hi
  | session m hr _ =>
    obtain ⟨hi, hb⟩ := initialized_and_bufSet_of_start_accepted hr
    exact hinv.session hi hb
  | stop => exact hinv.inactive
  | acquire hr => exact hinv.acquireBlock hr
  | giveBack hr => exact hinv.giveBack hr
  | clear => exact hinv.clearSticky

theorem exec_inv {s t : State} {i : Instr} (hinv : HandleInv s.params s.h) (hwf : i.wf s.params = true)
    (hx : exec i s = .next t) : HandleInv t.params t.h := by
  rw [exec_params hx]
  exact (exec_move hx).2.inv hinv hwf

/-- Both strategies of R149 give a cursor in range. -/
theorem producerAdvance_lt {p : Params} {e : EventWord} {h : Handle} {q : Nat} (hinv : HandleInv p h)
    (hq : producerAdvance p e h = .ok q) : h.bufSet = true ∧ q < h.blockCount := by
  obtain ⟨hb, ⟨-, rfl⟩ | ⟨-, hlt, rfl⟩⟩ := producerAdvance_ok hq
  · exact ⟨hb, incMod_lt (hinv.cursors_lt hb).2.2⟩
  · exact ⟨hb, hlt⟩

theorem EventMove.inv {s : State} {e : EventWord} {h : Handle} (hinv : HandleInv s.params s.h)
    (hi : s.h.initialized = true) (hm : EventMove e s h) : HandleInv s.params h := by
  cases hm with
  | noData hd => exact hinv.endSingle_noteEos e hi
  | data hd hq =>
    obtain ⟨hb, hlt⟩ := producerAdvance_lt hinv hq
    have hdata := hinv.takeData hb hlt
    exact hdata.endSingle_noteEos e (by rwa [takeData_eq])

theorem handleEvent_inv {s t : State} {e : EventWord} (hinv : HandleInv s.params s.h) (hi : s.h.initialized = true)
    (hx : handleEvent e s = .next t) : HandleInv t.params t.h := by
  rw [handleEvent_params hx]
  exact (handleEvent_move hx).inv hinv hi

theorem sampleEvent_wf (p : Params) (e : EventWord) : (sampleEvent p e).wf p = true := by
  simp [sampleEvent, EventWord.wf, Nat.mod_lt]

/-- Settles O38: a command keeps the handle's invariants and what is pending, the handler takes one event off, a completion
adds one as the wires carry it, and reset leaves the zero handle with nothing pending. -/
theorem stepKeepsTheInvariants : Obligations.StepKeepsTheInvariants := by
  unfold Obligations.StepKeepsTheInvariants
  rintro s t ⟨hinv, hwf⟩ hx
  cases step_serves_next hx with
  | noInput | undecoded | idle => exact ⟨hinv, hwf⟩
  | rst => exact ⟨.zero _, nofun⟩
  | decoded h hc hx =>
    refine ⟨exec_inv (s := openCommand s _ _) hinv (wf_of_decode_sampleCommand hc) hx, ?_⟩
    rw [exec_pending hx, exec_params hx]
    exact hwf
  | @completion rest e h =>
    refine ⟨hinv, fun e' he' => ?_⟩
    obtain hold | rfl := by simpa using he'
    · exact hwf e' hold
    · exact sampleEvent_wf _ e
  | due h hp hi hx =>
    refine ⟨handleEvent_inv (s := openEvent s _ _) hinv hi hx, ?_⟩
    rw [handleEvent_pending hx, handleEvent_params hx]
    exact fun e he => hwf e (hp ▸ List.mem_cons_of_mem _ he)

/-- Settles O39: the zero handle meets the invariants, and nothing is pending. -/
theorem resetMeetsTheInvariants : Obligations.ResetMeetsTheInvariants := by
  unfold Obligations.ResetMeetsTheInvariants
  exact fun p => ⟨.zero p, nofun⟩

end Sys2Proof.Machine
end

section
/-! The blocks the consumer holds: their count (spec/10_state.md R30 item 9), their ownership (spec/20_memory.md R56), and the
backpressure of GETBLOCK (spec/42_block_commands.md R126). -/

namespace Sys2Proof.Machine

/-! ### Positions and laps on the ring of blocks -/

/-- How many advances take cursor `i` to where it first meets `r` again: a full lap when it stands there. -/
def ringLap (n i r : Nat) : Nat := (r + n - i - 1) % n + 1

section

variable {n i r : Nat} (hi : i < n) (hr : r < n)

include hi hr

theorem ringLap_eq_ite : ringLap n i r = if i < r then r - i else r + n - i := by
  have hlap : ringLap n i r = ringDistance n (incMod i n) r + 1 := by
    unfold ringLap ringDistance incMod
    split
    case isTrue hn => rw [Nat.sub_sub, hn, Nat.add_sub_cancel, Nat.sub_zero, Nat.add_mod_right]
    case isFalse => rw [Nat.sub_sub]
  rw [hlap, ringDistance_eq_ite (incMod_lt hi) hr]
  unfold incMod
  split_ifs <;> omega

/-- An advance that does not meet the other cursor brings it one nearer. -/
theorem ringLap_incMod : ringLap n i r = if incMod i n = r then 1 else ringLap n (incMod i n) r + 1 := by
  rw [ringLap_eq_ite hi hr, ringLap_eq_ite (incMod_lt hi) hr]
  unfold incMod
  split_ifs <;> omega

end

theorem ringLap_self {n i : Nat} (hi : i < n) : ringLap n i i = n := by
  rw [ringLap_eq_ite hi hi, if_neg (lt_irrefl i), Nat.add_sub_cancel_left]

/-- Advancing once and then `k` places is advancing `k + 1` places. -/
theorem incMod_add_mod {n i : Nat} (hi : i < n) (k : Nat) : (incMod i n + k) % n = (i + (k + 1)) % n := by
  rw [incMod_eq_mod hi, Nat.mod_add_mod, Nat.add_assoc, Nat.add_comm 1 k]

theorem add_ringDistance_mod {n r k : Nat} (hr : r < n) (hk : k < n) : (r + ringDistance n r k) % n = k := by
  rw [ringDistance_eq_ite hr hk]
  split
  case isTrue hle => rw [Nat.add_sub_cancel' hle, Nat.mod_eq_of_lt hk]
  case isFalse => rw [show r + (k + n - r) = k + n by omega, Nat.add_mod_right, Nat.mod_eq_of_lt hk]

/-- The block `j` places behind `r` lies at distance `j`. -/
theorem ringDistance_add_mod {n r j : Nat} (hr : r < n) (hj : j < n) : ringDistance n r ((r + j) % n) = j := by
  rw [ringDistance_eq_ite hr (Nat.mod_lt _ (by omega))]
  obtain hlt | hge := Nat.lt_or_ge (r + j) n
  · rw [Nat.mod_eq_of_lt hlt]
    split <;> omega
  · rw [Nat.mod_eq_sub_mod hge, Nat.mod_eq_of_lt (by omega)]
    split <;> omega

/-! ### What GETBLOCK and RELEASE do to the count (R30 item 9) -/

section

variable {p : Params} {h : Handle} (hinv : HandleInv p h)

include hinv

theorem HandleInv.held_acquireBlock (hr : getRefused p.dir h = false) :
    held (Machine.acquireBlock p.dir h) = held h + 1 := by
  obtain ⟨hb, -, hl⟩ := getRefused_eq_false_iff.mp hr
  obtain ⟨hget, hrel, -⟩ := hinv.cursors_lt hb
  rw [held_of_not_limitOwned hb hl, ringDistance_incMod_right hrel hget, acquireBlock_eq _ hl]
  by_cases hparity : incMod h.idxGet h.blockCount = h.idxRel
  · rw [if_pos hparity]
    exact held_of_limitOwned hb (decide_eq_true hparity)
  · rw [if_neg hparity]
    exact held_of_not_limitOwned hb (decide_eq_false hparity)

/-- RELEASE is let through exactly when something is held. -/
theorem HandleInv.releaseRefused_eq_false_iff_held :
    releaseRefused h = false ↔ h.bufSet = true ∧ 0 < held h := by
  rw [releaseRefused_eq_false_iff]
  refine and_congr_right fun hb => ?_
  obtain ⟨hget, hrel, -⟩ := hinv.cursors_lt hb
  cases hl : h.limitOwned with
  | true => simp [held_of_limitOwned hb hl, hinv.blockCount_pos hb]
  | false =>
    rw [held_of_not_limitOwned hb hl, Nat.pos_iff_ne_zero, ne_eq, ringDistance_eq_zero_iff hrel hget]
    simp [eq_comm]

theorem HandleInv.held_giveBack (hr : releaseRefused h = false) : held (Machine.giveBack p.dir h) + 1 = held h := by
  obtain ⟨hb, hheld⟩ := hinv.releaseRefused_eq_false_iff_held.mp hr
  obtain ⟨hget, hrel, -⟩ := hinv.cursors_lt hb
  have hafter : held (Machine.giveBack p.dir h) = ringDistance h.blockCount (incMod h.idxRel h.blockCount) h.idxGet := by
    rw [giveBack_eq]
    exact held_of_not_limitOwned hb rfl
  rw [hafter, ringDistance_incMod_left hrel hget]
  cases hl : h.limitOwned with
  | true =>
    rw [if_pos (hinv.limit_parity hl), held_of_limitOwned hb hl]
    exact Nat.sub_add_cancel (hinv.blockCount_pos hb)
  | false =>
    rw [held_of_not_limitOwned hb hl] at hheld ⊢
    have hne : h.idxGet ≠ h.idxRel := fun heq => hheld.ne' ((ringDistance_eq_zero_iff hrel hget).mpr heq)
    rw [if_neg hne, Nat.sub_add_cancel hheld]

end

theorem held_attachBuffer (base total block : Nat) (h : Handle) : held (attachBuffer base total block h) = 0 := by
  simp [held, attachBuffer]

/-- An event writes nothing that the count reads. -/
theorem EventMove.held_eq {e : EventWord} {s : State} {h : Handle} (hm : EventMove e s h) : held h = held s.h := by
  obtain ⟨prod, empty, full, ovf, rfl⟩ := hm.frame
  rfl

section

variable {s t : State} {r : Response} (hrsp : t.rsp = some r)

include hrsp

/-- GETBLOCK's block is valid exactly when GETBLOCK is let through (R120, R121). -/
theorem execGetblock_answer (hx : execGetblock s = .next t) :
    r.blkValid = false ∧ t.h = s.h ∨
    r = blockResponse (blkAddr s.params s.h s.h.idxGet) ∧ getRefused s.params.dir s.h = false ∧
      t.h = acquireBlock s.params.dir s.h := by
  obtain ⟨-, hx'⟩ | ⟨hr, hx'⟩ := execGetblock_cases s <;> cases hx.symm.trans hx' <;> cases hrsp
  · exact .inl ⟨rfl, rfl⟩
  · exact .inr ⟨rfl, hr, rfl⟩

/-- RELEASE's result is Ok exactly when RELEASE is let through (R122, R123). -/
theorem execRelease_answer (hx : execRelease s = .next t) :
    r.code ≠ 0#2 ∧ releaseRefused s.h = true ∧ t.h = s.h ∨
    r.code = 0#2 ∧ releaseRefused s.h = false ∧ t.h = giveBack s.params.dir s.h := by
  obtain ⟨hr, hx'⟩ | ⟨hr, hx'⟩ := execRelease_cases s <;> cases hx.symm.trans hx' <;> cases hrsp
  · exact .inl ⟨by simp, hr, rfl⟩
  · exact .inr ⟨by simp, hr, rfl⟩

theorem execSetbuf_held {base total block : Nat} (hx : execSetbuf base total block s = .next t) :
    held t.h = if r.code = 0 then 0 else held s.h := by
  obtain ⟨-, hx'⟩ | ⟨-, -, hx'⟩ | ⟨-, -, -, hx'⟩ := execSetbuf_cases base total block s <;>
    cases hx.symm.trans hx' <;> cases hrsp
  · simp
  · simp
  · simp [held_attachBuffer]

end

/-- Settles O46: each command by its branches, and an event by its frame. -/
theorem heldBlocksAreCounted : Obligations.HeldBlocksAreCounted := by
  unfold Obligations.HeldBlocksAreCounted
  intro s hinv
  refine ⟨fun t r hx hrsp => ?getblock, fun t r hx hrsp => ?release, fun b n k t r hx hrsp => execSetbuf_held hrsp hx,
    fun e t hx => (handleEvent_move hx).held_eq⟩
  case getblock =>
    obtain ⟨hv, hh⟩ | ⟨rfl, hr, hh⟩ := execGetblock_answer hrsp hx
    · simp [hv, hh]
    · rw [hh, hinv.held_acquireBlock hr]
      rfl
  case release =>
    rw [← hinv.releaseRefused_eq_false_iff_held]
    obtain ⟨hcode, hr, hh⟩ | ⟨hcode, hr, hh⟩ := execRelease_answer hrsp hx
    · simp [hcode, hr, hh]
    · simp [hcode, hr, hh, hinv.held_giveBack hr]

/-! ### Ownership (R56) -/

section

variable {p : Params} {h : Handle} (hinv : HandleInv p h)

include hinv

/-- The owned blocks are those that lie nearer behind the release cursor than the count of held blocks. -/
theorem HandleInv.appOwns_iff (hb : h.bufSet = true) (k : Nat) :
    appOwns h k ↔ k < h.blockCount ∧ ringDistance h.blockCount h.idxRel k < held h := by
  obtain ⟨-, hrel, -⟩ := hinv.cursors_lt hb
  constructor
  · rintro ⟨j, hj, rfl⟩
    rw [ringDistance_add_mod hrel (hj.trans_le hinv.held_le)]
    exact ⟨Nat.mod_lt _ (hinv.blockCount_pos hb), hj⟩
  · rintro ⟨hk, hlt⟩
    exact ⟨_, hlt, (add_ringDistance_mod hrel hk).symm⟩

/-- The acquire cursor stands right behind the held blocks, so its block is not owned, and GETBLOCK takes it in. -/
theorem HandleInv.appOwns_acquireBlock (hr : getRefused p.dir h = false) :
    ¬ appOwns h h.idxGet ∧ ∀ k, appOwns (Machine.acquireBlock p.dir h) k ↔ appOwns h k ∨ k = h.idxGet := by
  obtain ⟨hb, -, hl⟩ := getRefused_eq_false_iff.mp hr
  obtain ⟨hget, hrel, -⟩ := hinv.cursors_lt hb
  have hheld := held_of_not_limitOwned hb hl
  refine ⟨fun howns => ?_, fun k => ?_⟩
  · exact absurd ((hinv.appOwns_iff hb _).mp howns).2 hheld.not_gt
  · have hafter := (hinv.acquireBlock hr).appOwns_iff hb k
    rw [hinv.held_acquireBlock hr] at hafter
    rw [hafter, hinv.appOwns_iff hb]
    change k < h.blockCount ∧ ringDistance h.blockCount h.idxRel k < held h + 1 ↔ _
    rw [Nat.lt_succ_iff_lt_or_eq, and_or_left]
    refine or_congr_right ⟨fun ⟨hk, heq⟩ => ?_, fun heq => ?_⟩
    · exact (ringDistance_right_inj hrel hk hget).mp (heq.trans hheld)
    · exact ⟨heq ▸ hget, heq ▸ hheld.symm⟩

/-- The release cursor stands on the oldest held block, and RELEASE lets that one go. -/
theorem HandleInv.appOwns_giveBack (hr : releaseRefused h = false) :
    appOwns h h.idxRel ∧ ∀ k, appOwns (Machine.giveBack p.dir h) k ↔ appOwns h k ∧ k ≠ h.idxRel := by
  obtain ⟨hb, hheld⟩ := hinv.releaseRefused_eq_false_iff_held.mp hr
  obtain ⟨-, hrel, -⟩ := hinv.cursors_lt hb
  refine ⟨⟨0, hheld, (Nat.mod_eq_of_lt hrel).symm⟩, fun k => ?_⟩
  have hle := hinv.held_le
  have hcount : held (Machine.giveBack p.dir h) = held h - 1 := Nat.eq_sub_of_add_eq (hinv.held_giveBack hr)
  have hafter := (hinv.giveBack hr).appOwns_iff (by rwa [giveBack_eq]) k
  rw [hafter, hcount, hinv.appOwns_iff hb, giveBack_eq, and_assoc]
  refine and_congr_right fun hk => ?_
  have hzero := ringDistance_eq_zero_iff hrel hk
  rw [ringDistance_incMod_left hrel hk]
  split <;> omega

end

/-- Settles O47: GETBLOCK hands out the block behind the held ones, and RELEASE gives back the first of them. -/
theorem ownershipPassesWithTheBlock : Obligations.OwnershipPassesWithTheBlock := by
  unfold Obligations.OwnershipPassesWithTheBlock
  intro s hinv
  refine ⟨fun t r hx hrsp hv => ?getblock, fun t r hx hrsp hcode => ?release⟩
  case getblock =>
    obtain ⟨hinvalid, -⟩ | ⟨rfl, hr, hh⟩ := execGetblock_answer hrsp hx
    · simp [hv] at hinvalid
    · rw [hh]
      exact ⟨rfl, hinv.appOwns_acquireBlock hr⟩
  case release =>
    obtain ⟨hfail, -⟩ | ⟨-, hr, hh⟩ := execRelease_answer hrsp hx
    · exact absurd hcode hfail
    · rw [hh]
      exact hinv.appOwns_giveBack hr

end Sys2Proof.Machine
end

section
/-! The backpressure of GETBLOCK (spec/42_block_commands.md R126), one-block buffers (spec/70_reset_and_hazards.md R183), and the
blocks of a buffer (spec/20_memory.md R41, R42). -/

namespace Sys2Proof.Machine

/-! ### How many more blocks can be acquired (R126) -/

/-- How many blocks the consumer does not hold. -/
def freeBlocks (h : Handle) : Nat := h.blockCount - held h

/-- How many blocks the producer is ahead of the acquire cursor, as far as GETBLOCK looks: for output it does not. -/
def freshBlocks (d : Dir) (h : Handle) : Nat :=
  if d = .output then freeBlocks h
  else if h.bufferEmpty = true then 0
  else ringLap h.blockCount h.idxGet h.idxProd

/-- How many GETBLOCK commands succeed in a row. -/
def acquirable (d : Dir) (h : Handle) : Nat := min (freeBlocks h) (freshBlocks d h)

section

variable {p : Params} {h : Handle} (hinv : HandleInv p h)

include hinv

theorem HandleInv.freeBlocks_eq_zero_iff (hb : h.bufSet = true) : freeBlocks h = 0 ↔ h.limitOwned = true := by
  rw [hinv.limit_iff, freeBlocks, Nat.sub_eq_zero_iff_le, and_iff_right hb]
  exact ⟨hinv.held_le.antisymm, ge_of_eq⟩

theorem HandleInv.acquirable_eq_zero_iff (hb : h.bufSet = true) :
    acquirable p.dir h = 0 ↔ getRefused p.dir h = true := by
  have hfree := hinv.freeBlocks_eq_zero_iff hb
  rw [getRefused_eq_true_iff, acquirable, Nat.min_eq_zero_iff, hfree, freshBlocks]
  cases hd : p.dir with
  | output => simp [hb, hfree]
  | input => cases hempty : h.bufferEmpty <;> simp [hb, ringLap]

theorem HandleInv.freshBlocks_acquireBlock (hr : getRefused p.dir h = false) (hd : p.dir = .input) :
    freshBlocks p.dir (Machine.acquireBlock p.dir h) + 1 = freshBlocks p.dir h := by
  obtain ⟨hb, hempty, hl⟩ := getRefused_eq_false_iff.mp hr
  obtain ⟨hget, -, hprod⟩ := hinv.cursors_lt hb
  have hlap := ringLap_incMod hget hprod
  rw [acquireBlock_eq _ hl]
  by_cases hdrained : incMod h.idxGet h.blockCount = h.idxProd
  · rw [if_pos hdrained] at hlap
    simp [freshBlocks, hd, hempty hd, hdrained, hlap]
  · rw [if_neg hdrained] at hlap
    simp [freshBlocks, hd, hempty hd, hdrained, hlap]

/-- Each acquisition uses one up. -/
theorem HandleInv.acquirable_acquireBlock (hr : getRefused p.dir h = false) :
    acquirable p.dir (Machine.acquireBlock p.dir h) + 1 = acquirable p.dir h := by
  obtain ⟨hb, -, hl⟩ := getRefused_eq_false_iff.mp hr
  have hfree : freeBlocks (Machine.acquireBlock p.dir h) + 1 = freeBlocks h := by
    have hcount : (Machine.acquireBlock p.dir h).blockCount = h.blockCount := rfl
    have hheld := hinv.held_acquireBlock hr
    have hlt := hinv.held_lt hb hl
    rw [freeBlocks, freeBlocks, hcount, hheld]
    omega
  have hfresh : freshBlocks p.dir (Machine.acquireBlock p.dir h) + 1 = freshBlocks p.dir h := by
    cases hd : p.dir with
    | input => exact hd ▸ hinv.freshBlocks_acquireBlock hr hd
    | output => simpa [freshBlocks, hd] using hfree
  rw [acquirable, acquirable, ← hfree, ← hfresh, Nat.add_min_add_right]

end

/-- The state after `n` acquisitions in a row from `s`: `n` more blocks are held, and the rest that GETBLOCK reads is as it was. -/
structure AcquiredFrom (s : State) (n : Nat) (u : State) : Prop where
  inv : HandleInv u.params u.h
  bufSet : u.h.bufSet = true
  params : u.params = s.params
  base : u.h.base = s.h.base
  blockSize : u.h.blockSize = s.h.blockSize
  blockCount : u.h.blockCount = s.h.blockCount
  idxGet : u.h.idxGet = (s.h.idxGet + n) % s.h.blockCount
  held_eq : held u.h = held s.h + n
  acquirable_add : acquirable u.params.dir u.h + n = acquirable s.params.dir s.h

theorem AcquiredFrom.refl {s : State} (hinv : HandleInv s.params s.h) (hb : s.h.bufSet = true) : AcquiredFrom s 0 s where
  inv := hinv
  bufSet := hb
  params := rfl
  base := rfl
  blockSize := rfl
  blockCount := rfl
  idxGet := (Nat.mod_eq_of_lt (hinv.cursors_lt hb).1).symm
  held_eq := rfl
  acquirable_add := rfl

/-- While blocks can be acquired GETBLOCK hands out the block of the acquire cursor and goes one on. -/
theorem AcquiredFrom.getblock {s u : State} {n : Nat} (hu : AcquiredFrom s n u) (hn : n < acquirable s.params.dir s.h) :
    ∃ v, exec .getblock u = .next v ∧ AcquiredFrom s (n + 1) v ∧
      v.rsp = some (blockResponse (blkAddr s.params s.h ((s.h.idxGet + n) % s.h.blockCount))) := by
  have hmore := hu.acquirable_add
  have hr : getRefused u.params.dir u.h = false := by
    rw [← Bool.not_eq_true, ← hu.inv.acquirable_eq_zero_iff hu.bufSet]
    omega
  have hget := (hu.inv.cursors_lt hu.bufSet).1
  have hnext : incMod u.h.idxGet u.h.blockCount = (s.h.idxGet + (n + 1)) % s.h.blockCount := by
    rw [incMod_eq_mod hget, hu.blockCount, hu.idxGet, Nat.mod_add_mod, Nat.add_assoc]
  have haddr : blkAddr u.params u.h u.h.idxGet = blkAddr s.params s.h ((s.h.idxGet + n) % s.h.blockCount) := by
    rw [blkAddr, hu.params, hu.base, hu.blockSize, hu.idxGet, blkAddr]
  refine ⟨_, execGetblock_of_accepted hr, ?_, by rw [haddr]; rfl⟩
  exact {
    inv := hu.inv.acquireBlock hr
    bufSet := hu.bufSet
    params := hu.params
    base := hu.base
    blockSize := hu.blockSize
    blockCount := hu.blockCount
    idxGet := hnext
    held_eq := by simpa [hu.held_eq, Nat.add_assoc] using hu.inv.held_acquireBlock hr
    acquirable_add := by
      have huse := hu.inv.acquirable_acquireBlock hr
      simp only [State.answer_params, State.answer_h, State.setHandle_params, State.setHandle_h]
      omega }

theorem repeatExec_snoc {i : Instr} {k : Nat} {s u : State} (hx : repeatExec i k s = .next u) :
    repeatExec i (k + 1) s = exec i u := by
  induction k generalizing s with
  | zero =>
    cases hx
    rw [repeatExec]
    cases exec i u <;> rfl
  | succ k ih =>
    rw [repeatExec] at hx ⊢
    cases hy : exec i s with
    | next t => rw [hy] at hx; exact ih hx
    | fault f => rw [hy] at hx; cases hx
    | refused r => rw [hy] at hx; cases hx

theorem repeatGetblock {s : State} (hinv : HandleInv s.params s.h) (hb : s.h.bufSet = true) {n : Nat}
    (hn : n ≤ acquirable s.params.dir s.h) : ∃ u, repeatExec .getblock n s = .next u ∧ AcquiredFrom s n u := by
  induction n with
  | zero => exact ⟨s, rfl, .refl hinv hb⟩
  | succ n ih =>
    obtain ⟨u, hx, hu⟩ := ih (Nat.le_of_succ_le hn)
    obtain ⟨v, hv, hacquired, -⟩ := hu.getblock hn
    exact ⟨v, (repeatExec_snoc hx).trans hv, hacquired⟩

/-- Settles O48: the acquisitions use up what can be acquired, one by one, and GETBLOCK is refused when nothing is left. -/
theorem backpressureAtAllBlocksHeld : Obligations.BackpressureAtAllBlocksHeld := by
  unfold Obligations.BackpressureAtAllBlocksHeld
  intro s hinv hb
  refine ⟨fun j (hj : j < acquirable s.params.dir s.h) => ?each, ?last⟩
  case each =>
    obtain ⟨u, hx, hu⟩ := repeatGetblock hinv hb hj.le
    obtain ⟨v, hv, -, hrsp⟩ := hu.getblock hj
    exact ⟨u, v, hx, hv, hrsp⟩
  case last =>
    obtain ⟨t, hx, ht⟩ := repeatGetblock hinv hb le_rfl
    have hrefused : getRefused t.params.dir t.h = true :=
      (ht.inv.acquirable_eq_zero_iff ht.bufSet).mp (Nat.add_eq_right.mp ht.acquirable_add)
    refine ⟨t, hx, ht.held_eq, execGetblock_of_refused hrefused,
      fun (hle : freeBlocks s.h ≤ freshBlocks s.params.dir s.h) => ?_⟩
    have hall : held t.h = s.h.blockCount := by
      rw [ht.held_eq, acquirable, min_eq_left hle, freeBlocks]
      exact Nat.add_sub_cancel' hinv.held_le
    exact ⟨hall, ht.inv.limit_iff.mpr ⟨ht.bufSet, hall.trans ht.blockCount.symm⟩⟩

/-- Settles O49: RELEASE clears the limit flag, so GETBLOCK is let through, and with both cursors one on from where they met the
limit flag stands again. -/
theorem oneReleaseRestoresOneBlock : Obligations.OneReleaseRestoresOneBlock := by
  unfold Obligations.OneReleaseRestoresOneBlock
  intro s hinv hd hl
  have hb := hinv.bufSet_of_limitOwned hl
  have hmeet := hinv.limit_parity hl
  have hrelease : releaseRefused s.h = false := releaseRefused_eq_false_iff.mpr ⟨hb, by simp [hl]⟩
  have hget : getRefused s.params.dir (giveBack s.params.dir s.h) = false := by
    rw [getRefused_eq_false_iff, giveBack_eq]
    exact ⟨hb, by simp [hd], rfl⟩
  have hlimit : (acquireBlock s.params.dir (giveBack s.params.dir s.h)).limitOwned = true := by
    rw [giveBack_eq, acquireBlock_eq _ rfl]
    exact decide_eq_true (by rw [hmeet])
  have haddr : blkAddr s.params (giveBack s.params.dir s.h) (giveBack s.params.dir s.h).idxGet =
      blkAddr s.params s.h s.h.idxRel := by
    rw [← hmeet, giveBack_eq]
    rfl
  exact ⟨_, _, _, execRelease_of_accepted hrelease, execGetblock_of_accepted hget, rfl, congrArg blockResponse haddr, hlimit,
    execGetblock_of_refused (getRefused_eq_true_iff.mpr (.inr (.inr hlimit)))⟩

/-! ### One-block buffers (R183) -/

theorem HandleInv.bufSet_of_blockCount_ne_zero {p : Params} {h : Handle} (hinv : HandleInv p h) (hn : h.blockCount ≠ 0) :
    h.bufSet = true := by
  by_contra hb
  obtain ⟨-, -, hcount, -⟩ := hinv.no_buffer (by simpa using hb)
  exact hn hcount

/-- The flow flags and the sticky flag after an event whose producer cursor meets the release cursor (R150, R151). -/
theorem handleEvent_of_catch {e : EventWord} {s t : State} {q : Nat} (hd : dataReady e = true)
    (hq : producerAdvance s.params e s.h = .ok q) (hcatch : q = s.h.idxRel) (hx : handleEvent e s = .next t) :
    (s.params.dir = .input → t.h.bufferFull = true) ∧ (s.params.dir = .output → t.h.bufferEmpty = true) ∧
      (s.h.singleMode = false → t.h.ovfUdf = true) := by
  cases (handleEvent_of_advance hd hq).symm.trans hx
  rw [finishEvent_h, State.setHandle_h, endSingle_noteEos_eq, takeData_eq]
  simp +contextual [hcatch]

/-- Settles O51: with one block the range leaves every cursor the value 0 only, so every advance meets every other cursor. -/
theorem oneBlockBuffers : Obligations.OneBlockBuffers := by
  unfold Obligations.OneBlockBuffers
  intro s hinv hone
  have hb := hinv.bufSet_of_blockCount_ne_zero (by simp [hone])
  have hcursors := hinv.cursors_lt hb
  simp only [hone, Nat.lt_one_iff] at hcursors
  obtain ⟨hget, hrel, hprod⟩ := hcursors
  refine ⟨hget, hrel, hprod, fun e t hd hx => ?event, fun t r hx hrsp hv => ?getblock⟩
  case event =>
    cases hq : producerAdvance s.params e s.h with
    | error f =>
      rw [handleEvent_of_fault hd hq] at hx
      cases hx
    | ok q =>
      have hlt := (producerAdvance_lt hinv hq).2
      exact handleEvent_of_catch hd hq (by omega) hx
  case getblock =>
    obtain ⟨hinvalid, -⟩ | ⟨-, hr, hh⟩ := execGetblock_answer hrsp hx
    · simp [hv] at hinvalid
    · obtain ⟨-, -, hl⟩ := getRefused_eq_false_iff.mp hr
      rw [hh, acquireBlock_eq _ hl]
      simp +contextual [hget, hrel, hprod, hone, incMod]

/-! ### The blocks of a buffer (R41, R42) -/

/-- Settles O33: the count is the quotient, so its multiple of the block size is at most the total and falls short of it by the
remainder, and a block ends where the next begins. -/
theorem blocksTileTheBuffer : Obligations.BlocksTileTheBuffer := by
  unfold Obligations.BlocksTileTheBuffer
  intro p h base total block hblock hle hwidth
  have hunused : total - total / block * block < block := by
    rw [← Nat.mod_eq_sub_div_mul]
    exact Nat.mod_lt _ hblock
  refine ⟨Nat.div_pos hle hblock, Nat.div_le_self _ _, hunused, fun k (hk : k < total / block) => ?_⟩
  have hend : (k + 1) * block ≤ total :=
    (Nat.mul_le_mul_right block hk).trans (Nat.div_mul_le_self total block)
  have hstart : k * block + block ≤ total := by rwa [← Nat.succ_mul]
  refine ⟨by omega, hend, fun j hj => Nat.mul_le_mul_right block hj, fun hfits => ?_⟩
  have hlt : base + k * block < 2 ^ p.addrW := by omega
  exact Nat.mod_eq_of_lt hlt

/-! ### The gray code of consecutive indices (R82) -/

theorem gray_mod_two (a : Nat) : gray a % 2 = (a + a / 2) % 2 := by
  rw [gray, Nat.xor_mod_two_eq, Nat.shiftRight_one]

/-- Settles O31: an even index and the next one differ in the lowest bit of their code alone, and the codes of an odd one and the
next agree there and differ above it as those of their halves do. -/
theorem grayCodeChangesOneBit : Obligations.GrayCodeChangesOneBit := by
  unfold Obligations.GrayCodeChangesOneBit
  intro a
  induction a using Nat.strongRecOn with
  | _ a ih =>
    have hhigh : (gray a ^^^ gray (a + 1)) / 2 = gray (a / 2) ^^^ gray ((a + 1) / 2) := by
      rw [Nat.xor_div_two, gray_div_two, gray_div_two]
    have hlow : (gray a ^^^ gray (a + 1)) % 2 = (a + a / 2 + (a + 1 + (a + 1) / 2)) % 2 := by
      rw [Nat.xor_mod_two_eq, Nat.add_mod, gray_mod_two, gray_mod_two, ← Nat.add_mod]
    obtain heven | hodd := Nat.mod_two_eq_zero_or_one a
    · have hsame : (a + 1) / 2 = a / 2 := by omega
      rw [hsame, Nat.xor_self] at hhigh
      rw [hsame] at hlow
      exact ⟨0, by omega⟩
    · have hnext : (a + 1) / 2 = a / 2 + 1 := by omega
      obtain ⟨k, hk⟩ := ih (a / 2) (by omega)
      rw [hnext, hk] at hhigh
      rw [hnext] at hlow
      exact ⟨k + 1, by rw [pow_succ]; omega⟩

end Sys2Proof.Machine
end

section
/-! Runs of events (spec/60_exceptions.md R149 to R153), what the handler does not look at (R85), and the environment budget over
a step (R159). -/

namespace Sys2Proof.Machine

/-! ### Data events in a row (R149, R151) -/

theorem ringLap_le_succ_iff {n i r : Nat} (hi : i < n) (hr : r < n) (k : Nat) :
    ringLap n i r ≤ k + 1 ↔ incMod i n = r ∨ ringLap n (incMod i n) r ≤ k := by
  rw [ringLap_incMod hi hr]
  split
  case isTrue hmeet => simp [hmeet]
  case isFalse hmeet => simp [hmeet]

theorem repeatEvent_succ {e : EventWord} {s t : State} (hx : handleEvent e s = .next t) (k : Nat) :
    repeatEvent e (k + 1) s = repeatEvent e k t := by
  rw [repeatEvent, hx]

/-- What data events read and leave as it is, in a Continuous session under SelfIncrement, and the ranges of the two cursors. -/
structure CountsEvents (s : State) : Prop where
  bufSet : s.h.bufSet = true
  prodAdvance : s.params.prodAdvance = .selfIncrement
  continuous : s.h.singleMode = false
  prod_lt : s.h.idxProd < s.h.blockCount
  rel_lt : s.h.idxRel < s.h.blockCount

section

variable {e : EventWord} (hd : e.ev.getLsbD 0 = true)

include hd

/-- One data event: the cursor goes one on, and the flags are set when it meets the release cursor. -/
theorem CountsEvents.handleEvent {s : State} (hs : CountsEvents s) :
    ∃ t, handleEvent e s = .next t ∧ CountsEvents t ∧ t.params = s.params ∧ t.h.blockCount = s.h.blockCount ∧
      t.h.idxRel = s.h.idxRel ∧ t.h.idxProd = incMod s.h.idxProd s.h.blockCount ∧
      (t.h.ovfUdf = true ↔ s.h.ovfUdf = true ∨ incMod s.h.idxProd s.h.blockCount = s.h.idxRel) ∧
      (s.params.dir = .input →
        (t.h.bufferFull = true ↔ s.h.bufferFull = true ∨ incMod s.h.idxProd s.h.blockCount = s.h.idxRel)) := by
  refine ⟨_, eventWithDataRunsTheHandler e s _ hd hs.bufSet (.inl ⟨hs.prodAdvance, rfl⟩),
    ⟨hs.bufSet, hs.prodAdvance, hs.continuous, incMod_lt hs.prod_lt, hs.rel_lt⟩, rfl, rfl, rfl, rfl, ?_, fun hdir => ?_⟩
  · simp [hs.continuous]
  · simp [hdir]

/-- `k` data events: the cursor goes `k` places on, and the flags are set when it has met the release cursor on the way. -/
theorem CountsEvents.repeatEvent (k : Nat) : ∀ {s : State}, CountsEvents s →
    ∃ t, repeatEvent e k s = .next t ∧ t.h.idxProd = (s.h.idxProd + k) % s.h.blockCount ∧
      (t.h.ovfUdf = true ↔ s.h.ovfUdf = true ∨ ringLap s.h.blockCount s.h.idxProd s.h.idxRel ≤ k) ∧
      (s.params.dir = .input → (t.h.bufferFull = true ↔
        s.h.bufferFull = true ∨ ringLap s.h.blockCount s.h.idxProd s.h.idxRel ≤ k)) := by
  induction k with
  | zero => exact fun {s} hs => ⟨s, rfl, (Nat.mod_eq_of_lt hs.prod_lt).symm, by simp [ringLap], by simp [ringLap]⟩
  | succ k ih =>
    intro s hs
    obtain ⟨u, hx, hu, hparams, hcount, hrel, hprod, hovf, hfull⟩ := hs.handleEvent hd
    obtain ⟨t, ht, hprod', hovf', hfull'⟩ := ih hu
    rw [hcount, hprod] at hprod'
    rw [hcount, hprod, hrel, hovf, or_assoc, ← ringLap_le_succ_iff hs.prod_lt hs.rel_lt] at hovf'
    refine ⟨t, (repeatEvent_succ hx k).trans ht, hprod'.trans (incMod_add_mod hs.prod_lt k), hovf', fun hdir => ?_⟩
    rw [hfull' (hparams ▸ hdir), hcount, hprod, hrel, hfull hdir, or_assoc, ← ringLap_le_succ_iff hs.prod_lt hs.rel_lt]

end

/-- Settles O50: by induction on the number of events, with the lap that is left growing shorter by one. -/
theorem overrunAtTheFirstLap : Obligations.OverrunAtTheFirstLap := by
  unfold Obligations.OverrunAtTheFirstLap
  intro s e k hinv hb hp hs hd
  obtain ⟨-, hrel, hprod⟩ := hinv.cursors_lt hb
  obtain ⟨t, hx, hprod', hovf, hfull⟩ := CountsEvents.repeatEvent hd k ⟨hb, hp, hs, hprod, hrel⟩
  exact ⟨t, hx, hprod', hovf, hfull, fun hmeet => by simpa [← hmeet, ringLap] using ringLap_self hprod⟩

/-! ### A Single session (R153) -/

/-- A START that has made an inactive handle active has set its mode; it leaves the sticky flag and the event port (R107). -/
theorem execStart_began {m : Bool} {s u : State} (hx : execStart m s = .next u) (ha : u.h.active = true)
    (ha' : s.h.active = false) : u.h.singleMode = m ∧ u.h.ovfUdf = s.h.ovfUdf ∧ u.evt = s.evt := by
  obtain ⟨-, hx'⟩ | ⟨-, hactive, hx'⟩ | ⟨-, -, hx'⟩ := execStart_cases m s <;> cases hx.symm.trans hx'
  · exact absurd ha (Bool.eq_false_iff.mp ha')
  · exact absurd hactive (Bool.eq_false_iff.mp ha')
  · rw [startSession_eq]
    exact ⟨rfl, rfl, rfl⟩

/-- Settles O27: the mode is Single, in which step 4 clears `active` and the detector does not fire. -/
theorem singleSessionEndsAtItsFirstEvent : Obligations.SingleSessionEndsAtItsFirstEvent := by
  unfold Obligations.SingleSessionEndsAtItsFirstEvent
  intro s u t e hstart ha ha' hnone hx
  obtain ⟨hsingle, hovf, hevt⟩ := execStart_began hstart ha ha'
  have hfire : eventFires e u t = false := by simp [eventFires, hsingle]
  refine ⟨by simp [handleEvent_active hx, hsingle], by simp [handleEvent_ovfUdf hx, hfire, hovf], fun m hm => ?_⟩
  obtain ⟨-, -, rfl⟩ := (handleEvent_evt_eq_some_iff (hevt.trans hnone) hx m).mp hm
  obtain ⟨-, hoverflow, hunderflow, -⟩ := eventMask_getLsbD u.params.dir e (eventFires e u t)
  rw [hoverflow, hunderflow, hfire]
  exact ⟨rfl, rfl⟩

/-! ### What the handler does not look at (R85) -/

/-- Settles O29: the cursor advance and each of the handler's steps read other fields only. -/
theorem handlerIgnoresActiveAndTheAcquireSide : Obligations.HandlerIgnoresActiveAndTheAcquireSide := by
  unfold Obligations.HandlerIgnoresActiveAndTheAcquireSide
  intro e s t active limit get hx
  obtain ⟨hd, rfl⟩ | ⟨hd, q, hq, rfl⟩ := handleEvent_next hx
  · refine ⟨_, handleEvent_of_noData hd, ?_⟩
    simp [endSingle_noteEos_eq, finishEvent_evt]
  · have hq' : producerAdvance s.params e { s.h with active := active, limitOwned := limit, idxGet := get } = .ok q := hq
    refine ⟨_, handleEvent_of_advance hd hq', ?_⟩
    simp [endSingle_noteEos_eq, finishEvent_evt, takeData_eq]

/-! ### The budget over a step (R159) -/

theorem Budget.atMost_mono {b : Budget} {m n : Nat} (h : b.atMost m) (hle : m ≤ n) : b.atMost n := by
  obtain ⟨k, hk, hkm⟩ := h
  exact ⟨k, hk, hkm.trans hle⟩

theorem Budget.atMost_num (n : Nat) : (Budget.num n).atMost n := ⟨n, rfl, le_rfl⟩

theorem Budget.atMost_cap {b : Budget} {n : Nat} (h : b.atMost n) (k : Nat) : (b.cap k).atMost n := by
  obtain ⟨m, rfl, hm⟩ := h
  exact ⟨min m k, rfl, (min_le_left m k).trans hm⟩

section

variable {s t : State} {n : Nat} (hn : s.budget = .num n)

include hn

theorem handleEvent_budget_atMost {e : EventWord} (hx : handleEvent e s = .next t) : t.budget.atMost (n - 1) := by
  have hspent : s.budget.spend.atMost (n - 1) := by rw [hn]; exact Budget.atMost_num _
  rw [handleEvent_budget hx]
  split
  · exact Budget.atMost_cap hspent _
  · exact hspent

theorem exec_budget_atMost {i : Instr} (hx : exec i s = .next t) (hstart : ∀ m, i = .start m → t.trace = s.trace) :
    t.budget.atMost n := by
  have hsame : s.budget.atMost n := hn ▸ Budget.atMost_num n
  cases i with
  | uninit => exact exec_budget_of_stops hx (.inr rfl) ▸ Budget.atMost_cap hsame _
  | stop =>
    obtain ⟨ha, hx'⟩ | ⟨ha, -⟩ := execStop_cases s
    · cases hx.symm.trans hx'
      exact hsame
    · exact exec_budget_of_stops hx (.inl ⟨rfl, ha⟩) ▸ Budget.atMost_cap hsame _
  | start m => exact execStart_budget_of_noWrites hx (hstart m rfl) ▸ hsame
  | init | setbuf => exact exec_budget_of_noSession hx nofun (by simp) ▸ hsame
  | getblock | release | getstatus =>
    exact exec_budget_of_noSession hx nofun (.inl (traceOnlyGrows.2 _ _ _ (by simp) hx)) ▸ hsame

end

/-- Settles O54: an event that is due spends one, and no other input raises the budget. -/
theorem quietEnvironmentBoundsLateEvents : Obligations.QuietEnvironmentBoundsLateEvents := by
  unfold Obligations.QuietEnvironmentBoundsLateEvents
  intro s t n hn hquiet hx hstart
  have hsame : s.budget.atMost n := hn ▸ Budget.atMost_num n
  cases hdue : eventDue s with
  | true =>
    obtain ⟨rest, e, more, h, hp, hi⟩ := eventDue_iff.mp hdue
    have hpos : 0 < n := Nat.pos_of_ne_zero fun hzero => hquiet hdue (hzero ▸ hn)
    rw [step_of_deliver_due h hp hi] at hx
    have hspent := handleEvent_budget_atMost (s := openEvent s rest more) hn hx
    exact ⟨Budget.atMost_mono hspent (Nat.sub_le n 1), fun _ => ⟨hpos, hspent⟩⟩
  | false =>
    refine ⟨?_, nofun⟩
    cases step_serves_next hx with
    | noInput | undecoded | completion | idle => exact hsame
    | rst => exact ⟨0, rfl, Nat.zero_le n⟩
    | decoded h hc hx =>
      refine exec_budget_atMost (s := openCommand s _ _) hn hx ?_
      rintro m rfl
      exact hstart _ _ _ m h hc
    | due h hp hi =>
      have hdue' := eventDue_iff.mpr ⟨_, _, _, h, hp, hi⟩
      simp [hdue] at hdue'

end Sys2Proof.Machine
end

section
/-! Repeated commands (spec/20_memory.md R53), the configuration and the interval (spec/60_exceptions.md R160), the hazards of
spec/70_reset_and_hazards.md (R174, R180, R181), and the system of channels (R163). -/

namespace Sys2Proof.Machine

/-! ### Repeated commands (R53) -/

theorem execStop_of_inactive {s : State} (ha : s.h.active = false) : execStop s = .next (s.finish .ok) :=
  if_neg (Bool.eq_false_iff.mp ha)

theorem execStop_twice {s t : State} (hx : execStop s = .next t) : execStop t = .next t := by
  obtain ⟨ha, hx'⟩ | ⟨-, hx'⟩ := execStop_cases s <;> cases hx.symm.trans hx'
  · exact execStop_of_inactive ha
  · exact execStop_of_inactive rfl

/-- Settles O52: INIT and UNINIT write a handle that does not depend on the one before, STOP leaves `active` clear, and GETSTATUS
leaves both sticky flags clear. -/
theorem repeatedCommandsAreIdempotent : Obligations.RepeatedCommandsAreIdempotent := by
  unfold Obligations.RepeatedCommandsAreIdempotent
  intro i s t hx
  refine ⟨?fresh, ?stop, ?getstatus⟩
  case fresh => rintro (rfl | ⟨m, rfl⟩) <;> cases hx <;> exact ⟨_, rfl, rfl⟩
  case stop =>
    rintro rfl
    exact execStop_twice hx
  case getstatus =>
    rintro rfl
    cases hx
    exact ⟨_, _, rfl, rfl, statusBits_getLsbD s.h.active false false⟩

/-! ### The interval and the configuration (R160) -/

/-- Settles O55: with divisors that are not 0 neither free value is drawn. -/
theorem intervalFormula : Obligations.IntervalFormula := by
  unfold Obligations.IntervalFormula
  refine fun source device blockSize draw => ⟨fun rate bits channels hrate hframe => ?audio, fun _ _ rate _ hrate => ?frame⟩
  case audio => exact if_neg (not_or.mpr ⟨hrate, hframe⟩)
  case frame => exact if_neg hrate

/-- The same state under the configuration `c`. -/
def State.withCfg (s : State) (c : ChannelCfg) : State := { s with params := { s.params with cfg := c } }

/-- What a command leaves under two configurations agrees in everything but the configuration and the marks it writes, which are as many. -/
def AgreesUpToCfg (c : ChannelCfg) (t t' : State) : Prop :=
  ∃ ms, t' = { t.withCfg c with trace := ms } ∧ ms.length = t.trace.length

theorem agreesUpToCfg_withCfg (c : ChannelCfg) (t : State) : AgreesUpToCfg c t (t.withCfg c) := ⟨_, rfl, rfl⟩

section

variable (c : ChannelCfg) {s : State}

theorem execStart_withCfg (m : Bool) :
    ∃ t t', execStart m s = .next t ∧ execStart m (s.withCfg c) = .next t' ∧ AgreesUpToCfg c t t' := by
  obtain ⟨hr, hx⟩ | ⟨hr, ha, hx⟩ | ⟨hr, ha, hx⟩ := execStart_cases m s
  · exact ⟨_, _, hx, execStart_of_refused hr, agreesUpToCfg_withCfg c _⟩
  · exact ⟨_, _, hx, execStart_of_active hr ha, agreesUpToCfg_withCfg c _⟩
  · refine ⟨_, _, hx, execStart_of_inactive hr ha, ?_⟩
    rw [startSession_eq, startSession_eq]
    exact ⟨_, rfl, by simp [startWrites, State.withCfg]⟩

theorem execSetbuf_withCfg (base total block : Nat) :
    ∃ t t', execSetbuf base total block s = .next t ∧ execSetbuf base total block (s.withCfg c) = .next t' ∧
      AgreesUpToCfg c t t' := by
  obtain ⟨hbad, hx⟩ | ⟨hgood, hstate, hx⟩ | ⟨hgood, hi, ha, hx⟩ := execSetbuf_cases base total block s
  · exact ⟨_, _, hx, execSetbuf_of_badBuffer hbad, agreesUpToCfg_withCfg c _⟩
  · exact ⟨_, _, hx, execSetbuf_of_wrongState hgood hstate, agreesUpToCfg_withCfg c _⟩
  · exact ⟨_, _, hx, execSetbuf_of_accepted hgood hi ha, agreesUpToCfg_withCfg c _⟩

theorem execStop_withCfg :
    ∃ t t', execStop s = .next t ∧ execStop (s.withCfg c) = .next t' ∧ AgreesUpToCfg c t t' := by
  obtain ⟨ha, hx⟩ | ⟨ha, hx⟩ := execStop_cases s
  · exact ⟨_, _, hx, execStop_of_inactive ha, agreesUpToCfg_withCfg c _⟩
  · exact ⟨_, _, hx, if_pos ha, agreesUpToCfg_withCfg c _⟩

theorem execGetblock_withCfg :
    ∃ t t', execGetblock s = .next t ∧ execGetblock (s.withCfg c) = .next t' ∧ AgreesUpToCfg c t t' := by
  obtain ⟨hr, hx⟩ | ⟨hr, hx⟩ := execGetblock_cases s
  · exact ⟨_, _, hx, execGetblock_of_refused hr, agreesUpToCfg_withCfg c _⟩
  · exact ⟨_, _, hx, execGetblock_of_accepted hr, agreesUpToCfg_withCfg c _⟩

theorem execRelease_withCfg :
    ∃ t t', execRelease s = .next t ∧ execRelease (s.withCfg c) = .next t' ∧ AgreesUpToCfg c t t' := by
  obtain ⟨hr, hx⟩ | ⟨hr, hx⟩ := execRelease_cases s
  · exact ⟨_, _, hx, execRelease_of_refused hr, agreesUpToCfg_withCfg c _⟩
  · exact ⟨_, _, hx, execRelease_of_accepted hr, agreesUpToCfg_withCfg c _⟩

theorem exec_withCfg (i : Instr) (s : State) :
    ∃ t t', exec i s = .next t ∧ exec i (s.withCfg c) = .next t' ∧ AgreesUpToCfg c t t' := by
  cases i with
  | init m => exact ⟨_, _, rfl, rfl, _, rfl, by simp [State.withCfg]⟩
  | uninit => exact ⟨_, _, rfl, rfl, agreesUpToCfg_withCfg c _⟩
  | setbuf base total block => exact execSetbuf_withCfg c base total block
  | start m => exact execStart_withCfg c m
  | stop => exact execStop_withCfg c
  | getblock => exact execGetblock_withCfg c
  | release => exact execRelease_withCfg c
  | getstatus => exact ⟨_, _, rfl, rfl, agreesUpToCfg_withCfg c _⟩

theorem finishEvent_withCfg (e : EventWord) (fire : Bool) (s : State) :
    finishEvent e fire (s.withCfg c) = (finishEvent e fire s).withCfg c := by
  rw [finishEvent_eq, finishEvent_eq, callback_eq, callback_eq]
  rfl

theorem handleEvent_withCfg {e : EventWord} {t : State} (hx : handleEvent e s = .next t) :
    handleEvent e (s.withCfg c) = .next (t.withCfg c) := by
  obtain ⟨hd, rfl⟩ | ⟨hd, q, hq, rfl⟩ := handleEvent_next hx
  · rw [← finishEvent_withCfg]
    exact handleEvent_of_noData hd
  · rw [← finishEvent_withCfg]
    exact handleEvent_of_advance hd hq

end

/-- Settles O56: no check and no update of a command reads the configuration, and the handler does not read it at all. -/
theorem configurationIsInvisible : Obligations.ConfigurationIsInvisible := by
  unfold Obligations.ConfigurationIsInvisible
  refine ⟨fun i s c => ?command, fun e s c => ⟨fun t hx => handleEvent_withCfg c hx, fun f hx => ?fault⟩⟩
  case command =>
    obtain ⟨t, _, hx, hx', ms, rfl, hlength⟩ := exec_withCfg c i s
    exact ⟨t, _, hx, hx', rfl, rfl, rfl, rfl, hlength⟩
  case fault =>
    obtain ⟨hd, hf⟩ := handleEvent_eq_fault_iff.mp hx
    exact handleEvent_of_fault hd hf

/-! ### Output GETBLOCK (R174) -/

/-- Settles O57: for output the producer cursor is read neither by the refusal conditions nor by the update. -/
theorem outputGetblockIgnoresTheProducer : Obligations.OutputGetblockIgnoresTheProducer := by
  unfold Obligations.OutputGetblockIgnoresTheProducer
  intro s prod hd
  obtain ⟨hr, hx⟩ | ⟨hr, hx⟩ := execGetblock_cases s
  · exact ⟨_, hx, execGetblock_of_refused hr⟩
  · have hx' : exec .getblock { s with h := { s.h with idxProd := prod } } = _ := execGetblock_of_accepted hr
    refine ⟨_, hx, hx'.trans ?_⟩
    rw [hd]
    rfl

/-! ### INIT while active (R180) -/

/-- Settles O59: INIT leaves a handle that is neither active nor attached, whatever it was. -/
theorem initWhileActiveLeavesThePeripheralRunning : Obligations.InitWhileActiveLeavesThePeripheralRunning := by
  unfold Obligations.InitWhileActiveLeavesThePeripheralRunning
  intro m s t _ hx
  cases hx
  exact ⟨rfl, rfl, rfl, rfl, execStop_of_inactive rfl, fun e hd => handleEvent_of_fault hd (producerAdvance_of_noBuffer rfl)⟩

/-! ### Channels (R2, R163) -/

theorem System.get_set (y : System) (c d : Channel) (s : State) :
    (y.set c s).get d = if d = c then s else y.get d := by
  cases c <;> cases d <;> rfl

/-- A system is what its four channels hold. -/
theorem System.ext_get {y z : System} (h : ∀ c, y.get c = z.get c) : y = z := by
  obtain ⟨ai, ao, vi, vo⟩ := y
  obtain ⟨ai', ao', vi', vo'⟩ := z
  exact (System.mk.injEq ..).mpr ⟨h .audioIn, h .audioOut, h .videoIn, h .videoOut⟩

theorem System.set_comm (y : System) {c d : Channel} (s s' : State) (hne : c ≠ d) :
    (y.set c s).set d s' = (y.set d s').set c s := by
  refine System.ext_get fun x => ?_
  simp only [System.get_set]
  by_cases hc : x = c
  · rw [if_neg (hc ▸ hne), if_pos hc, if_pos hc]
  · rw [if_neg hc, if_neg hc]

theorem System.step_eq_next_iff {c : Channel} {y z : System} :
    System.step c y = .next z ↔ ∃ s, Machine.step (y.get c) = .next s ∧ z = y.set c s := by
  unfold System.step
  cases Machine.step (y.get c) <;> simp [eq_comm]

/-- Settles O60: a step of a channel sets what that channel holds alone, and settings of different channels commute. -/
theorem channelsShareNothing : Obligations.ChannelsShareNothing := by
  unfold Obligations.ChannelsShareNothing
  refine ⟨fun c y z hx => ?frame, fun c d y z z' hne hx hx' => ?commute⟩
  case frame =>
    obtain ⟨s, hs, rfl⟩ := System.step_eq_next_iff.mp hx
    exact ⟨by rw [hs, System.get_set, if_pos rfl], fun d hd => by rw [System.get_set, if_neg hd]⟩
  case commute =>
    obtain ⟨s, hs, rfl⟩ := System.step_eq_next_iff.mp hx
    obtain ⟨s', hs', rfl⟩ := System.step_eq_next_iff.mp hx'
    rw [System.get_set, if_neg hne.symm] at hs'
    have hs'' : step ((y.set d s').get c) = .next s := by rwa [System.get_set, if_neg hne]
    exact ⟨y.set d s', System.step_eq_next_iff.mpr ⟨s', hs', rfl⟩,
      System.step_eq_next_iff.mpr ⟨s, hs'', System.set_comm y s s' hne⟩⟩

end Sys2Proof.Machine
end

section
/-! Restarting after a catch (spec/70_reset_and_hazards.md R181). -/

namespace Sys2Proof.Machine

/-- A caught state is one that passes every failure check of START but that of the pointless transfer (R89, R105). -/
theorem caught_iff {s : State} :
    caught s ↔ s.h.initialized = true ∧ s.h.bufSet = true ∧ pointless s.params.dir s.h = true := by
  unfold caught
  cases s.params.dir <;> simp [pointless]

theorem startRefused_of_caught {s : State} (hc : caught s) : startRefused s.params.dir s.h = true := by
  obtain ⟨-, -, hp⟩ := caught_iff.mp hc
  simp [startRefused, hp]

/-- START is acceptable where its failure checks let it through. -/
theorem execStart_code_of_accepted {s : State} (hr : startRefused s.params.dir s.h = false) (m : Bool) :
    ∃ u r, execStart m s = .next u ∧ u.rsp = some r ∧ r.code ≠ 2 := by
  obtain ⟨u, v, hx, hrsp⟩ := execStart_response s m
  obtain ⟨-, hstate, -⟩ := execStart_code hrsp hx
  exact ⟨u, _, hx, hrsp, fun hcode => by simp [hstate.mp hcode] at hr⟩

/-- The commands after which START is acceptable again (R181): the consumer has released a block or, for input, acquired one or
reissued the buffer. -/
def HelpsRestart (d : Dir) (i : Instr) (r : Response) : Prop :=
  r.code = 0 ∧ (i = .release ∨ (d = .input ∧ ((i = .getblock ∧ r.blkValid = true) ∨ ∃ b n k, i = .setbuf b n k)))

/-- What a command that keeps the buffer leaves of a caught session: it helps and START is acceptable, or it does not and the
session is still a caught one. -/
def RestartFollows (s t : State) (i : Instr) (r : Response) : Prop :=
  HelpsRestart s.params.dir i r ∧ startRefused t.params.dir t.h = false ∨ ¬ HelpsRestart s.params.dir i r ∧ caught t

section

variable {s t : State} {r : Response} (hc : caught s) (hrsp : t.rsp = some r)

include hc hrsp

theorem execRelease_restart (hx : execRelease s = .next t) : RestartFollows s t .release r := by
  obtain ⟨hi, hb, -⟩ := caught_iff.mp hc
  obtain ⟨-, hx'⟩ | ⟨-, hx'⟩ := execRelease_cases s <;> cases hx.symm.trans hx' <;> cases hrsp
  · exact .inr ⟨fun ⟨hcode, _⟩ => by simp at hcode, hc⟩
  · refine .inl ⟨⟨rfl, .inl rfl⟩, startRefused_eq_false_iff.mpr ?_⟩
    rw [State.finish_h, State.finish_params, State.setHandle_h, State.setHandle_params, giveBack_eq]
    exact ⟨hi, hb, fun hd => if_pos hd, fun hd => if_pos hd⟩

theorem execGetblock_restart (hx : execGetblock s = .next t) : RestartFollows s t .getblock r := by
  obtain ⟨hi, hb, hp⟩ := caught_iff.mp hc
  obtain ⟨-, hx'⟩ | ⟨-, hx'⟩ := execGetblock_cases s <;> cases hx.symm.trans hx' <;> cases hrsp
  · exact .inr ⟨by simp [HelpsRestart, absentResponse], hc⟩
  · cases hd : s.params.dir with
    | input =>
      have houtput : s.params.dir ≠ .output := by simp [hd]
      exact .inl ⟨⟨rfl, .inr ⟨hd, .inl ⟨rfl, rfl⟩⟩⟩,
        startRefused_eq_false_iff.mpr ⟨hi, hb, fun _ => rfl, fun hd' => absurd hd' houtput⟩⟩
    | output =>
      refine .inr ⟨by simp [HelpsRestart, hd], caught_iff.mpr ⟨hi, hb, ?_⟩⟩
      simpa [hd, pointless, acquireBlock] using hp

theorem execSetbuf_restart {base total block : Nat} (hx : execSetbuf base total block s = .next t) :
    RestartFollows s t (.setbuf base total block) r := by
  obtain ⟨-, hx'⟩ | ⟨-, -, hx'⟩ | ⟨-, hi, -, hx'⟩ := execSetbuf_cases base total block s <;>
    cases hx.symm.trans hx' <;> cases hrsp
  · exact .inr ⟨fun ⟨hcode, _⟩ => by simp at hcode, hc⟩
  · exact .inr ⟨fun ⟨hcode, _⟩ => by simp at hcode, hc⟩
  · cases hd : s.params.dir with
    | input =>
      have houtput : s.params.dir ≠ .output := by simp [hd]
      exact .inl ⟨⟨rfl, .inr ⟨hd, .inr ⟨_, _, _, rfl⟩⟩⟩,
        startRefused_eq_false_iff.mpr ⟨hi, rfl, fun _ => rfl, fun hd' => absurd hd' houtput⟩⟩
    | output => exact .inr ⟨by simp [HelpsRestart, hd], hi, rfl, .inr ⟨hd, rfl⟩⟩

theorem exec_restart {i : Instr} (hx : exec i s = .next t) (huninit : i ≠ .uninit) (hinit : ∀ m, i ≠ .init m) :
    RestartFollows s t i r := by
  cases i with
  | init m => exact absurd rfl (hinit m)
  | uninit => exact absurd rfl huninit
  | setbuf base total block => exact execSetbuf_restart hc hrsp hx
  | start m =>
    cases (execStart_of_refused (startRefused_of_caught hc)).symm.trans hx
    exact .inr ⟨by simp [HelpsRestart], hc⟩
  | stop =>
    obtain ⟨-, hx'⟩ | ⟨-, hx'⟩ := execStop_cases s <;> cases hx.symm.trans hx' <;>
      exact .inr ⟨by simp [HelpsRestart], hc⟩
  | getblock => exact execGetblock_restart hc hrsp hx
  | release => exact execRelease_restart hc hrsp hx
  | getstatus =>
    cases hx
    exact .inr ⟨by simp [HelpsRestart], hc⟩

end

/-- INIT and UNINIT take the buffer away. -/
theorem startRefused_of_init_or_uninit {i : Instr} {s t : State} (hx : exec i s = .next t)
    (hi : i = .uninit ∨ ∃ m, i = .init m) : startRefused t.params.dir t.h = true := by
  obtain rfl | ⟨m, rfl⟩ := hi <;> cases hx <;> exact startRefused_eq_true_iff.mpr (.inr (.inl rfl))

/-- An event never clears the flag of a catch (R150, R151). -/
theorem EventMove.caught {e : EventWord} {s t : State} (hc : caught s) (hp : t.params = s.params)
    (hm : EventMove e s t.h) : caught t := by
  obtain ⟨hi, hb, hflag⟩ := hc
  unfold Machine.caught
  rw [hp]
  generalize t.h = h at hm
  cases hm with
  | noData hd =>
    rw [endSingle_noteEos_eq]
    exact ⟨hi, hb, hflag⟩
  | data hd hq =>
    rw [endSingle_noteEos_eq, takeData_eq]
    refine ⟨hi, hb, ?_⟩
    obtain ⟨hdir, hfull⟩ | ⟨hdir, hempty⟩ := hflag
    · exact .inl ⟨hdir, by simp [hdir, hfull]⟩
    · exact .inr ⟨hdir, by simp [hdir, hempty]⟩

/-- Settles O58: the flag of a catch is cleared exactly by the commands that help, and no event clears it. -/
theorem restartNeedsTheConsumer : Obligations.RestartNeedsTheConsumer := by
  unfold Obligations.RestartNeedsTheConsumer
  refine fun s hc => ⟨fun i t r hx hrsp => ?command, fun e t hx => ?event⟩
  case command =>
    change (HelpsRestart s.params.dir i r → _) ∧ (¬ HelpsRestart s.params.dir i r → _) ∧
      (¬ HelpsRestart s.params.dir i r → _)
    by_cases hi : i = .uninit ∨ ∃ m, i = .init m
    · have hnot : ¬ HelpsRestart s.params.dir i r := by
        obtain rfl | ⟨m, rfl⟩ := hi <;> simp [HelpsRestart]
      refine ⟨fun h => absurd h hnot, fun _ m => execStart_of_refused (startRefused_of_init_or_uninit hx hi),
        fun _ huninit hinit => ?_⟩
      obtain h | ⟨m, h⟩ := hi
      · exact absurd h huninit
      · exact absurd h (hinit m)
    · obtain ⟨huninit, hinit⟩ := not_or.mp hi
      obtain ⟨hhelps, hr⟩ | ⟨hnot, hcaught⟩ := exec_restart hc hrsp hx huninit (not_exists.mp hinit)
      · exact ⟨fun _ => execStart_code_of_accepted hr, fun h => absurd hhelps h, fun h => absurd hhelps h⟩
      · exact ⟨fun h => absurd h hnot, fun _ m => execStart_of_refused (startRefused_of_caught hcaught),
          fun _ _ _ => hcaught⟩
  case event =>
    have hcaught := (handleEvent_move hx).caught hc (handleEvent_params hx)
    exact ⟨hcaught, fun m => execStart_of_refused (startRefused_of_caught hcaught)⟩

end Sys2Proof.Machine
end
